-- ==== Sys2Proof/Word.lean ====
section
/-! DEFINITION. The byte and the word of the AJ-32, and the two plainest things done with a 32-bit number:
the saturating count of the counters and the wrap-round count of acceptance numbers and generations. -/

namespace Sys2Proof

/-- One byte lane (00_scope.md, Conventions). -/
abbrev Byte := BitVec 8

/-- A word is 32 bits, four byte lanes (00_scope.md, Terms). -/
abbrev Word := BitVec 32

/-- A byte with its enable: `none` is a lane whose byte enable is clear. -/
abbrev Enables := BitVec 4

/-- R32, R59, R93, R159, R166, R184: a counter is 32 bits wide and stays at 4,294,967,295 once it reaches it. -/
def satInc (w : Word) : Word :=
  if w = BitVec.allOnes 32 then w else w + 1#32

end Sys2Proof
end

