-- ==== Sys2Proof/Machine/Bytes.lean ====
section
/-! DEFINITION. Byte order and the two check codes (R94, R99). -/

namespace Sys2Proof.Machine

/-- Byte lane `lane` of a word; lane 0 is the byte at the lowest address (00_scope.md, Byte lanes). -/
def laneByte (w : Word) (lane : Nat) : Byte := BitVec.setWidth 8 (w >>> (8 * lane))

/-- R94, R99: a 32-bit field, least significant byte first. -/
def wordBytes (w : Word) : List Byte := [laneByte w 0, laneByte w 1, laneByte w 2, laneByte w 3]

/-- R99: a 16-bit field, least significant byte first. -/
def halfBytes (h : BitVec 16) : List Byte := [BitVec.setWidth 8 h, BitVec.setWidth 8 (h >>> 8)]

/-- R94: the word whose bytes, least significant first, are the four given. -/
def wordOf (b0 b1 b2 b3 : Byte) : Word := b3 ++ b2 ++ b1 ++ b0

/-- R99: the 16-bit number whose bytes, least significant first, are the two given. -/
def halfOf (b0 b1 : Byte) : BitVec 16 := b1 ++ b0

/-- The bytes of words in ascending address order. -/
def wordsBytes (ws : List Word) : List Byte := ws.flatMap wordBytes

/-- A byte that holds a small number. -/
def byteOf (n : Nat) : Byte := BitVec.ofNat 8 n

/-- A 32-bit field that holds a number. -/
def wordOfNat (n : Nat) : Word := BitVec.ofNat 32 n

/-- R94, step 2: one of the eight steps of the check-code register. -/
def crc32Shift (r : Word) : Word :=
  if r.getLsbD 0 then (r >>> 1) ^^^ 0xEDB88320#32 else r >>> 1

/-- R94, step 2: the register after one byte. -/
def crc32Byte (r : Word) (b : Byte) : Word :=
  Nat.repeat crc32Shift 8 (r ^^^ b.setWidth 32)

/-- R94: the check code over anchors and records. -/
def crc32 (bytes : List Byte) : Word := ~~~ (bytes.foldl crc32Byte (BitVec.allOnes 32))

/-- R99, step 2: one of the eight steps of the frame check register. -/
def crc8Shift (r : Byte) : Byte :=
  if r.getLsbD 7 then (r <<< 1) ^^^ 0x07#8 else r <<< 1

/-- R99, step 2: the register after one byte. -/
def crc8Byte (r b : Byte) : Byte := Nat.repeat crc8Shift 8 (r ^^^ b)

/-- R99: the frame check code. -/
def crc8 (bytes : List Byte) : Byte := bytes.foldl crc8Byte 0

end Sys2Proof.Machine
end

