-- ==== Sys2Proof/Config.lean ====
section
/-! DEFINITION. The numbers the manual fixes for the part. The AJ-32 leaves no value of its own to an
implementation: what the memory devices do comes with the commands that carry their answers (Syntax.lean), so
this file holds constants only and no free value. -/

namespace Sys2Proof.Config

/-- R1: the first byte address above the address space, 2^28. -/
def addressSpace : Nat := 268435456
/-- R1: the number of granules. -/
def granules : Nat := 8388608
/-- R34: the posted write queue holds at most 16 entries. -/
def queueDepth : Nat := 16
/-- R73: a staging bank holds up to 16 records. -/
def bankDepth : Nat := 16
/-- R6, R7, R60: the longest region, the bound on the JOURNALED total, and the bits of a touch map. -/
def touchBits : Nat := 65536
/-- R4: bytes of a record slot. -/
def slotBytes : Nat := 48
/-- R95: the format mark of an anchor. -/
def formatMark : Word := 0x4E7A31C6#32
/-- R77, R185: the flush threshold after RESET. -/
def resetThreshold : Nat := 8
/-- R78, R185: the coalesce time after RESET, in microseconds. -/
def resetCoalesce : Nat := 20
/-- R155, R185: the slot discard time after RESET, in microseconds. -/
def resetDiscard : Nat := 2000
/-- R110: the last epoch number before the epoch advance wraps. -/
def lastEpoch : Word := BitVec.allOnes 32
/-- R180: the receive frame buffer collects up to 28 bytes. -/
def receiveBytes : Nat := 28
/-- R168: the later-fault count stays at 65,535 once it has reached it. -/
def maxLaterFaults : Nat := 65535

end Sys2Proof.Config
end

