-- ==== Sys2Proof/Syntax.lean ====
section
/-! DEFINITION. The commands of the AJ-32: one constructor of `Instr` for each row of spec/opcode_table.json, with
the operands the row's rule gives it. A command is one happening, whole and indivisible (00_scope.md, Happenings;
95_what_each_step_holds.md). Host requests come from the bus masters, service commands and fetches from the
supervisor, RESET and PFAIL from their lines, answers from the memory devices, and the rest (a grant, a take, a timer
expiry, the end of a sweep) from the part itself. -/

namespace Sys2Proof

/-- A region entry in its stored layout (R95), as STAGE_REGION carries it. -/
structure StoredEntry where
  base : Word
  length : Word
  mode : Byte
  elide : Byte
  fill : BitVec 16
  deriving DecidableEq, Repr

/-- R161: the memory devices' answer to a READ. OKAY carries all four lanes of every word; ERROR carries no data.
`seen` lists the words the devices return, lowest address first; a word it does not list is the word the model's
memory holds, so `okay []` is the answer of devices that kept what they took. A device that has lost contents
(R139) answers with other words. -/
inductive ReadAnswer where
  | okay (seen : List Word)
  | error
  deriving DecidableEq, Repr

/-- R161: the memory devices' answer to a WRITE. On ERROR the bytes addressed, enabled or not, hold whatever the
devices left: `left` lists them from the lowest address, and a byte it does not list keeps its old value. -/
inductive WriteAnswer where
  | okay
  | error (left : List Byte)
  deriving DecidableEq, Repr

/-- R161: whether the answer to a read is ERROR. -/
def ReadAnswer.isError : ReadAnswer → Bool
  | .okay _ => false
  | .error => true

/-- R161: whether the answer to a write is ERROR. -/
def WriteAnswer.isError : WriteAnswer → Bool
  | .okay => false
  | .error _ => true

/-- R17: one word of a WRITE with its four byte enables, lane 0 in bit 0. -/
abbrev LaneWord := Word × Enables

/-- The commands, in the order of spec/opcode_table.json (REQUEST_FRAME is its last row). A service command carries
the tag of its request frame (R99) and the fields of its payload (R100). -/
inductive Instr where
  /-- HOST_READ (R17, R23). -/
  | hostRead (master : BitVec 3) (addr : BitVec 28) (len : Nat)
  /-- HOST_WRITE (R17, R25). -/
  | hostWrite (master : BitVec 3) (addr : BitVec 28) (len : Nat) (data : List LaneWord)
  /-- RESET_ASSERTED (R33, R167): `left` is what the devices leave of a write in flight, as in `WriteAnswer.error`. -/
  | resetAsserted (left : List Byte)
  /-- RESET_RELEASED (R123). -/
  | resetReleased
  /-- PFAIL_ASSERTED (R175). -/
  | pfailAsserted
  /-- PFAIL_DEASSERTED (R176). -/
  | pfailDeasserted
  /-- GET_STATUS (R184). -/
  | getStatus (tag : Byte)
  /-- GET_FAULT (R184). -/
  | getFault (tag : Byte)
  /-- CLEAR_FAULT (R170). -/
  | clearFault (tag : Byte)
  /-- GET_COUNTERS (R184). -/
  | getCounters (tag : Byte)
  /-- CLEAR_COUNTERS (R184). -/
  | clearCounters (tag : Byte)
  /-- SET_TUNING (R185). -/
  | setTuning (tag threshold : Byte) (coalesce discard : BitVec 16) (warning : Word) (mask : Byte)
  /-- STAGE_REGION (R9). -/
  | stageRegion (tag index : Byte) (entry : StoredEntry)
  /-- GET_REGION (R186). -/
  | getRegion (tag copy index : Byte)
  /-- FORMAT (R118). -/
  | format (tag : Byte) (base size : Word)
  /-- CHECKPOINT (R108). -/
  | checkpoint (tag : Byte)
  /-- ADOPT (R117). -/
  | adopt (tag : Byte)
  /-- ROLLBACK (R134). -/
  | rollback (tag : Byte)
  /-- RESUME (R119). -/
  | resume (tag : Byte)
  /-- PEEK_RECORD (R187). -/
  | peekRecord (tag : Byte) (slot : Word)
  /-- CLEAR_ATTENTION (R189). -/
  | clearAttention (tag mask : Byte)
  /-- RESPONSE_FETCH (R182): `clocked` bytes are clocked after the type byte. -/
  | responseFetch (clocked : Nat)
  /-- MEMORY_GRANT (R163). -/
  | memoryGrant
  /-- CLASSIFIER_TAKE (R39). -/
  | classifierTake
  /-- OLD_DATA_READ_DONE (R46). -/
  | oldDataReadDone (answer : ReadAnswer)
  /-- COALESCE_TIMER_EXPIRY (R79). -/
  | coalesceTimerExpiry
  /-- RECORD_WRITE_DONE (R82). -/
  | recordWriteDone (answer : WriteAnswer)
  /-- COMMIT_WRITE_DONE (R54). -/
  | commitWriteDone (answer : WriteAnswer)
  /-- FETCH_DONE (R152). -/
  | fetchDone (answer : ReadAnswer)
  /-- SLOT_DISCARD_TIMER_EXPIRY (R155). -/
  | slotDiscardTimerExpiry (slot : Fin 4)
  /-- PEEK_READ_DONE (R188). -/
  | peekReadDone (answer : ReadAnswer)
  /-- SWEEP_END (R61). -/
  | sweepEnd
  /-- ANCHOR_READ_DONE (R124). -/
  | anchorReadDone (answer : ReadAnswer)
  /-- ANCHOR_WRITE_DONE (R107). -/
  | anchorWriteDone (answer : WriteAnswer)
  /-- ANCHOR_READ_BACK_DONE (R107). -/
  | anchorReadBackDone (answer : ReadAnswer)
  /-- CLEAR_WRITE_DONE (R114). -/
  | clearWriteDone (answer : WriteAnswer)
  /-- SCAN_READ_DONE (R128). -/
  | scanReadDone (answer : ReadAnswer)
  /-- WALK_READ_DONE (R138). -/
  | walkReadDone (answer : ReadAnswer)
  /-- WALK_WRITE_DONE (R138). -/
  | walkWriteDone (answer : WriteAnswer)
  /-- REQUEST_FRAME (R180, R181): `period` is every whole byte the supervisor shifts in during one chip-select
  period, the type byte first. -/
  | requestFrame (period : List Byte)
  deriving DecidableEq, Repr

/-- R100: the commands a request frame can carry, with the fields of their payloads. Each is also a row of the table,
where it stands together with its frame's tag. -/
inductive ServiceCommand where
  | getStatus
  | getFault
  | clearFault
  | getCounters
  | clearCounters
  | setTuning (threshold : Byte) (coalesce discard : BitVec 16) (warning : Word) (mask : Byte)
  | stageRegion (index : Byte) (entry : StoredEntry)
  | getRegion (copy index : Byte)
  | format (base size : Word)
  | checkpoint
  | adopt
  | rollback
  | resume
  | peekRecord (slot : Word)
  | clearAttention (mask : Byte)
  deriving DecidableEq, Repr

/-- The row of the table that a service command with a tag is. -/
def ServiceCommand.toInstr (tag : Byte) : ServiceCommand → Instr
  | .getStatus => .getStatus tag
  | .getFault => .getFault tag
  | .clearFault => .clearFault tag
  | .getCounters => .getCounters tag
  | .clearCounters => .clearCounters tag
  | .setTuning threshold coalesce discard warning mask => .setTuning tag threshold coalesce discard warning mask
  | .stageRegion index entry => .stageRegion tag index entry
  | .getRegion copy index => .getRegion tag copy index
  | .format base size => .format tag base size
  | .checkpoint => .checkpoint tag
  | .adopt => .adopt tag
  | .rollback => .rollback tag
  | .resume => .resume tag
  | .peekRecord slot => .peekRecord tag slot
  | .clearAttention mask => .clearAttention tag mask

end Sys2Proof
end

