-- ==== Sys2Proof/Decode.lean ====
section
/-! DEFINITION. Reading commands. No row of spec/opcode_table.json gives bits, so no word spells a command; the
supervisor's commands have bytes, and here is how a request frame is read and written (R99, R100). -/

namespace Sys2Proof

open Sys2Proof.Machine

/-- The command that a word spells by the table's bits. The table gives no row any bits (every `fields` is empty and no
row has `fixed`), so there is none. -/
def decodeTableWord (_nbits _w : Nat) : Option Instr := none

/-- R100: the code of a command. -/
def ServiceCommand.code : ServiceCommand → Byte
  | .getStatus => 0x01
  | .getFault => 0x02
  | .clearFault => 0x03
  | .getCounters => 0x04
  | .clearCounters => 0x05
  | .setTuning _ _ _ _ _ => 0x06
  | .stageRegion _ _ => 0x07
  | .getRegion _ _ => 0x08
  | .format _ _ => 0x10
  | .checkpoint => 0x11
  | .adopt => 0x12
  | .rollback => 0x13
  | .resume => 0x14
  | .peekRecord _ => 0x20
  | .clearAttention _ => 0x21

/-- R95: the twelve bytes of a stored region entry. -/
def StoredEntry.bytes (e : StoredEntry) : List Byte :=
  wordBytes e.base ++ wordBytes e.length ++ [e.mode, e.elide] ++ halfBytes e.fill

/-- R100: the request payload of a command. -/
def ServiceCommand.payload : ServiceCommand → List Byte
  | .getStatus => []
  | .getFault => []
  | .clearFault => []
  | .getCounters => []
  | .clearCounters => []
  | .setTuning threshold coalesce discard warning mask =>
      [threshold] ++ halfBytes coalesce ++ halfBytes discard ++ wordBytes warning ++ [mask]
  | .stageRegion index entry => [index] ++ entry.bytes
  | .getRegion copy index => [copy, index]
  | .format base size => wordBytes base ++ wordBytes size
  | .checkpoint => []
  | .adopt => []
  | .rollback => []
  | .resume => []
  | .peekRecord slot => wordBytes slot
  | .clearAttention mask => [mask]

/-- R99: a frame is its first bytes closed by the CRC-8 over them. -/
def withFrameCheck (bytes : List Byte) : List Byte := bytes ++ [crc8 bytes]

/-- R99: the request frame of a command, after the type byte. -/
def encodeRequest (tag : Byte) (c : ServiceCommand) : List Byte :=
  withFrameCheck (c.code :: tag :: byteOf c.payload.length :: c.payload)

/-- R100: whether the table holds a command code. -/
def knownCode (code : Byte) : Bool :=
  [0x01, 0x02, 0x03, 0x04, 0x05, 0x06, 0x07, 0x08, 0x10, 0x11, 0x12, 0x13, 0x14, 0x20, 0x21].contains code.toNat

/-- R100: the command that a code with a payload is; `none` for a code outside the table and for a payload of another
length than the table gives the code. -/
def commandOf (code : Byte) (payload : List Byte) : Option ServiceCommand :=
  match code.toNat, payload with
  | 0x01, [] => some .getStatus
  | 0x02, [] => some .getFault
  | 0x03, [] => some .clearFault
  | 0x04, [] => some .getCounters
  | 0x05, [] => some .clearCounters
  | 0x06, [t, c0, c1, d0, d1, w0, w1, w2, w3, m] =>
      some (.setTuning t (halfOf c0 c1) (halfOf d0 d1) (wordOf w0 w1 w2 w3) m)
  | 0x07, [i, b0, b1, b2, b3, l0, l1, l2, l3, m, e, f0, f1] =>
      some (.stageRegion i ⟨wordOf b0 b1 b2 b3, wordOf l0 l1 l2 l3, m, e, halfOf f0 f1⟩)
  | 0x08, [c, i] => some (.getRegion c i)
  | 0x10, [b0, b1, b2, b3, s0, s1, s2, s3] =>
      some (.format (wordOf b0 b1 b2 b3) (wordOf s0 s1 s2 s3))
  | 0x11, [] => some .checkpoint
  | 0x12, [] => some .adopt
  | 0x13, [] => some .rollback
  | 0x14, [] => some .resume
  | 0x20, [s0, s1, s2, s3] => some (.peekRecord (wordOf s0 s1 s2 s3))
  | 0x21, [m] => some (.clearAttention m)
  | _, _ => none

/-- R181, checks 2 to 5: what a collected frame is. -/
inductive FrameVerdict where
  /-- Not well formed (R99): the tag the answer FRAME_ERROR carries. -/
  | malformed (tag : Byte)
  /-- A code outside R100's table. -/
  | unknown (tag : Byte)
  /-- A payload length other than R100 gives the code. -/
  | badLength (tag : Byte)
  | command (tag : Byte) (c : ServiceCommand)
  deriving DecidableEq, Repr

/-- R99, R181: the verdict on the bytes collected after the type byte. A frame is well formed when its payload length
is at most 24, the period holds at least 4 + payload length bytes, and the byte at that position is the CRC-8 over
the bytes before it; bytes after it are not taken. -/
def decodeRequest (bytes : List Byte) : FrameVerdict :=
  match bytes with
  | code :: tag :: plen :: rest =>
    let n := plen.toNat
    if n ≤ 24 ∧ n + 1 ≤ rest.length ∧
        rest[n]? = some (crc8 (code :: tag :: plen :: rest.take n)) then
      match commandOf code (rest.take n) with
      | some c => .command tag c
      | none => if knownCode code then .badLength tag else .unknown tag
    else .malformed tag
  | [_, tag] => .malformed tag
  | _ => .malformed 0

end Sys2Proof
end

