-- ==== Sys2Proof/Machine/State.lean ====
section
/-! DEFINITION. What the AJ-32 holds, block by block (00_scope.md, Device overview), as plain data, with the values
after RESET. A docstring cites the rule that names the item. The fields that are the model's own and not the
manual's are marked so, and INVENTORY.md lists them. -/

namespace Sys2Proof.Machine

/-- Why a step stops the machine. -/
inductive Fault where
  /-- Raised by MEMORY_GRANT alone, for a request whose access does not lie inside the 28-bit address space. R161
  says that every access the part forms lies inside it, so only a state that no run reaches raises it. Safe. -/
  | outsideAddressSpace
  deriving DecidableEq, Repr

/-- Why a step has no meaning. -/
inductive Refusal where
  /-- Raised by an arm of `exec` whose command has no meaning yet; no arm does. Safe. -/
  | notModelled (mnemonic : String)
  deriving DecidableEq, Repr

/-! ### Region table and geometry (01_protected_regions_and_the_address_map.md) -/

/-- R6: the mode of a region entry. -/
inductive RegionMode where
  | off | journaled | frozen
  deriving DecidableEq, Repr

/-- R6: a region entry, base and length in granules. -/
structure RegionEntry where
  mode : RegionMode
  base : Nat
  length : Nat
  elide : Bool
  deriving DecidableEq, Repr

/-- R6: an OFF entry reads as base 0, length 0 and elide clear. -/
def RegionEntry.unused : RegionEntry := ⟨.off, 0, 0, false⟩

/-- R6, R8: one copy of the region table, entries 0 to 7. -/
abbrev Table := Vector RegionEntry 8

/-- R8: the copy after RESET, eight OFF entries. -/
def Table.allOff : Table := Vector.replicate 8 RegionEntry.unused

/-- R3, R5: base and size of a record area, in bytes. -/
structure Geometry where
  base : Nat
  size : Nat
  deriving DecidableEq, Repr

/-- R4: the number of record slots of an area. -/
def Geometry.capacity (g : Geometry) : Nat := g.size / Config.slotBytes

/-- R8: the region table block. The touch index offsets of R13 are a function of the active copy
(`touchOffset`, Operands.lean). -/
structure Regions where
  active : Table
  staged : Table
  deriving DecidableEq, Repr

/-! ### Host port (02_host_port_transactions.md) -/

/-- R18: the response to a host request. -/
inductive HostResponse where
  | okay
  | data (words : List Word)
  | retry
  | error
  deriving DecidableEq, Repr

/-- R26, R33: the next acceptance number. `response` is the model's own field: the answer last put on the host bus
(assumption 14). -/
structure HostPort where
  nextNumber : Word
  response : Option HostResponse
  deriving DecidableEq, Repr

/-! ### Posted write queue (03_the_posted_write_queue.md) -/

/-- R36: the stage of an entry. -/
inductive Stage where
  | unclassified | classifying | waiting | ready | committing
  deriving DecidableEq, Repr

/-- R35: a write entry. -/
structure Entry where
  number : Word
  master : BitVec 3
  granule : Nat
  first : Nat
  len : Nat
  data : List LaneWord
  stage : Stage
  region : Option Nat
  recordSeq : Option Nat
  classEpoch : Option Word
  deriving DecidableEq, Repr

/-- R45: what stays with a classification until it ends: the lookup result of the taking, and the entry's granule and
master tag, which R136 reports when the entry has already been discarded. -/
structure Classification where
  granule : Nat
  master : BitVec 3
  region : Nat
  touch : Nat
  elide : Bool
  deriving DecidableEq, Repr

/-- R38: the classifier's condition. -/
inductive Classifier where
  | idle
  | reading (c : Classification)
  | held (c : Classification)
  deriving DecidableEq, Repr

/-- R34, R38: the entries, head first, and the classifier. -/
structure WriteQueue where
  entries : List Entry
  classifier : Classifier
  deriving DecidableEq, Repr

/-! ### Touch maps (04_touch_maps.md) -/

/-- R60: the conditions of a map. LIVE is an active map's, CLEAN and DIRTY an inactive map's. -/
inductive MapCondition where
  | live | sweeping | clean | dirty
  deriving DecidableEq, Repr

/-- R60: a map of 65,536 bits, held as the strictly rising list of the numbers of its set bits. -/
structure TouchMap where
  setBits : List Nat
  condition : MapCondition
  deriving DecidableEq, Repr

/-- R60: the two maps and the active index (`false` is map 0). The sweep engine's one item, the map it is sweeping,
is the map whose condition is SWEEPING. -/
structure TouchMaps where
  activeIndex : Bool
  map0 : TouchMap
  map1 : TouchMap
  deriving DecidableEq, Repr

/-! ### Staging banks and journal writer (05_staging_banks_and_the_journal_writer.md) -/

/-- R71, R98: a record as a bank holds it, without its check code. -/
structure JournalRecord where
  epoch : Word
  seq : Nat
  granule : Nat
  region : Nat
  master : BitVec 3
  old : List Word
  deriving DecidableEq, Repr

/-- R73: the states of a bank. -/
inductive BankState where
  | empty | filling | flushing | flushFailed
  deriving DecidableEq, Repr

/-- R73: a staging bank, lowest sequence first; its count is the number of its records. -/
structure Bank where
  state : BankState
  records : List JournalRecord
  deriving DecidableEq, Repr

/-- R73: an EMPTY bank. -/
def Bank.emptied : Bank := ⟨.empty, []⟩

/-- R72 to R91: the journal writer. A timer that is RUNNING is `some` of the period it was started with, in
microseconds; a warning setting of `none` is DEFAULT; banks are named by `false` (bank 0) and `true` (bank 1). -/
structure JournalWriter where
  nextSeq : Nat
  durable : Nat
  bank0 : Bank
  bank1 : Bank
  lastSealed : Option Bool
  coalesceTimer : Option Nat
  coalesceDemand : Bool
  flushThreshold : Nat
  coalesceTime : Nat
  warnSetting : Option Nat
  warnArmed : Bool
  fullArmed : Bool
  deriving DecidableEq, Repr

/-! ### Read slots (09_delayed_reads.md) -/

/-- R145: the key of a slot. -/
structure SlotKey where
  master : BitVec 3
  addr : BitVec 28
  len : Nat
  deriving DecidableEq, Repr

/-- R145: a read slot, with the items its state calls for. A running discard timer is the period it was started
with, in microseconds. -/
inductive Slot where
  | free
  | hazardWait (key : SlotKey)
  | fetchPending (key : SlotKey)
  | fetching (key : SlotKey) (stale : Bool)
  | ready (key : SlotKey) (data : List Word) (timer : Nat)
  | failed (key : SlotKey) (timer : Nat)
  deriving DecidableEq, Repr

/-- R145, R155: the four slots and the slot discard time. -/
structure ReadSlots where
  slots : Vector Slot 4
  discardTime : Nat
  deriving DecidableEq, Repr

/-! ### Memory port (10_the_memory_port.md) -/

/-- R162: the requesters; a fetch is owned by its slot. -/
inductive Requester where
  | epochController | journalWriter | classifier | commitStage
  | readSlot (slot : Fin 4)
  | servicePort
  deriving DecidableEq, Repr

/-- R161: a memory access. -/
inductive Access where
  | read (addr len : Nat)
  | write (addr : Nat) (words : List LaneWord)
  deriving DecidableEq, Repr

/-- R163: the access in flight and its owner. -/
structure InFlight where
  owner : Requester
  access : Access
  deriving DecidableEq, Repr

/-! ### Epoch controller (07_epochs_checkpoints_and_adoption.md, 08_start_up_and_rollback.md) -/

/-- R102: the journal state. -/
inductive JournalState where
  | starting | unformatted | recoveryPending | recoveryFault | ready | halted
  deriving DecidableEq, Repr

/-- R102: the long operations. -/
inductive OpKind where
  | checkpoint | adopt | rollback | format | resume
  deriving DecidableEq, Repr

/-- R101, R104: the phases. SWITCH is entered and completed in one happening, so no state holds it. -/
inductive Phase where
  | noPhase | freeze | drain | sweepWait | anchor | switch | anchor0 | clear | anchor1
  | quiesce | resolve | scan | walk | mapSweep | anchorRead | restart | reissue
  deriving DecidableEq, Repr

/-- R2: the two anchor copies. -/
inductive Copy where
  | a | b
  deriving DecidableEq, Repr

/-- R95: the ending of an anchor. -/
inductive Ending where
  | formatted | committed | adopted | rolledBack | restarted
  deriving DecidableEq, Repr

/-- R95: the fields of an anchor copy (mark, fills and check code are computed, Formats.lean). -/
structure Anchor where
  generation : Word
  epoch : Word
  ending : Ending
  geometry : Geometry
  table : Table
  deriving DecidableEq, Repr

/-- The access the epoch controller has standing or in flight, with what it has gathered so far (R107, R114, R124,
R128, R138). A two-half read holds the first half's words once it has them. -/
inductive EpochWork where
  | rest
  | anchorRead (copy : Copy) (firstHalf : Option (List Word)) (copyA : Option Anchor)
  | anchorWrite (second : Bool) (anchor : Anchor)
  | readBack (firstHalf : Option (List Word)) (anchor : Anchor)
  | clearing (k : Nat)
  | scanning (slot : Nat)
  | walkReading (slot : Nat)
  | walkWriting (slot granule : Nat) (master : BitVec 3) (old : List Word)
  deriving DecidableEq, Repr

/-- R106: how an operation ended. -/
inductive OpOutcome where
  | success | failed
  deriving DecidableEq, Repr

/-- R102, R106: the last-operation record. -/
structure LastOp where
  kind : OpKind
  outcome : OpOutcome
  epochAfter : Word
  deriving DecidableEq, Repr

/-- R119, R120: one item of a RESUME. -/
inductive ResumeItem where
  | notStarted | outstanding | succeeded | failed
  deriving DecidableEq, Repr

/-- R127, R130: what start-up keeps of a clear cycle it runs: the ending its anchors carry, and whether the cycle
stands in place of RESTART. -/
structure StartCycle where
  ending : Ending
  restarting : Bool
  deriving DecidableEq, Repr

/-- R102: the epoch controller. Clear pending is set while the newest anchor carries epoch 0, so it is read from
`newest` and `epoch` (`clearPending`, Ops.lean). -/
structure EpochController where
  journal : JournalState
  newest : Option Copy
  generation : Word
  epoch : Word
  geometry : Option Geometry
  op : Option OpKind
  phase : Phase
  formatArgs : Option Geometry
  freeze : Bool
  drain : Bool
  countUnknown : Bool
  walkRemaining : Nat
  lastOp : Option LastOp
  work : EpochWork
  startCycle : Option StartCycle
  resumeFlush : ResumeItem
  resumeRead : ResumeItem
  deriving DecidableEq, Repr

/-! ### Fault and hold logic (11_faults_halts_and_power_fail_hold.md) -/

/-- R168: the kinds of fault. -/
inductive FaultKind where
  | dataWrite | oldRead | flush | anchorWrite | fetch | scanRead | walkRead | walkWrite
  | recordCheck | clearWrite | tableDiscard
  deriving DecidableEq, Repr

/-- R101: the sources of a fault. -/
inductive FaultSource where
  | epochController | journalWriter | classifier | commitStage | readSlots
  deriving DecidableEq, Repr

/-- R168: a fault with the optional fields its report carries. -/
structure FaultReport where
  kind : FaultKind
  source : FaultSource
  granule : Option Nat
  master : Option (BitVec 3)
  epoch : Option Word
  slotOrSeq : Option Nat
  deriving DecidableEq, Repr

/-- R171: the halted cause. -/
inductive HaltCause where
  | oldRead | flush
  deriving DecidableEq, Repr

/-- R168, R171, R175, R177: the fault record with its later-fault count, the halted cause, the hold flag (which equals
the level of the PFAIL line) and the level of PFQUIET. -/
structure FaultLogic where
  record : Option FaultReport
  laterFaults : Nat
  haltedCause : Option HaltCause
  hold : Bool
  pfquiet : Bool
  deriving DecidableEq, Repr

/-! ### Service port (12_service_port.md) -/

/-- R99: the results of a response frame. -/
inductive Result where
  | ok | accepted | pending | busy | badState | badArgument | tableInvalid | powerHold
  | frameError | unknownCommand | memoryError
  deriving DecidableEq, Repr

/-- R182: the response buffer. -/
structure Response where
  tag : Byte
  result : Result
  payload : List Byte
  deriving DecidableEq, Repr

/-- R187: a peek read: the slot index carried and the byte address computed at execution. -/
structure Peek where
  slot : Nat
  addr : Nat
  deriving DecidableEq, Repr

/-- R180 to R189: the service port. `peekRead` is the peek read standing or in flight, and `peekWaiting` the peeks
accepted while a read that outlived its response is still outstanding (R187), the first accepted first (assumption 19);
`causes` and `mask` use the bit layout of R100. `sdo` is the model's own field: the bytes shifted out in the last
transaction (assumption 14). -/
structure ServicePort where
  response : Response
  rxFrame : List Byte
  peekRead : Option Peek
  peekWaiting : List Peek
  causes : Byte
  mask : Byte
  sdo : List Byte
  deriving DecidableEq, Repr

/-! ### The machine -/

/-- The AJ-32, the working memory behind its memory port, and the queue of commands that wait. `inReset` is the level
of the RESET line. `mem` lists the bytes of working memory that are not 0, addresses strictly rising. `counters` holds
the sixteen counters in the order of R100. -/
structure State where
  inReset : Bool
  host : HostPort
  regions : Regions
  pwq : WriteQueue
  maps : TouchMaps
  writer : JournalWriter
  reads : ReadSlots
  port : Option InFlight
  ctl : EpochController
  faults : FaultLogic
  service : ServicePort
  counters : Vector Word 16
  mem : List Host.Cell
  pending : List Instr
  deriving DecidableEq, Repr

/-- R93: the journal writer after RESET. -/
def JournalWriter.reset : JournalWriter where
  nextSeq := 0
  durable := 0
  bank0 := Bank.emptied
  bank1 := Bank.emptied
  lastSealed := none
  coalesceTimer := none
  coalesceDemand := false
  flushThreshold := Config.resetThreshold
  coalesceTime := Config.resetCoalesce
  warnSetting := none
  warnArmed := true
  fullArmed := true

/-- R102: the epoch controller after RESET. -/
def EpochController.reset : EpochController where
  journal := .starting
  newest := none
  generation := 0
  epoch := 0
  geometry := none
  op := none
  phase := .noPhase
  formatArgs := none
  freeze := false
  drain := false
  countUnknown := false
  walkRemaining := 0
  lastOp := none
  work := .rest
  startCycle := none
  resumeFlush := .notStarted
  resumeRead := .notStarted

/-- The machine right after RESET, with the RESET line still asserted and PFAIL deasserted (assumption 6): R8, R33, R58,
R68, R93, R102, R160, R163, R168, R171, R190. -/
def State.reset : State where
  inReset := true
  host := { nextNumber := 0, response := none }
  regions := { active := Table.allOff, staged := Table.allOff }
  pwq := { entries := [], classifier := .idle }
  maps := { activeIndex := false, map0 := ⟨[], .sweeping⟩, map1 := ⟨[], .dirty⟩ }
  writer := JournalWriter.reset
  reads := { slots := Vector.replicate 4 .free, discardTime := Config.resetDiscard }
  port := none
  ctl := EpochController.reset
  faults := { record := none, laterFaults := 0, haltedCause := none, hold := false, pfquiet := false }
  service := { response := ⟨0, .ok, []⟩, rxFrame := [], peekRead := none, peekWaiting := [],
               causes := 0, mask := 0xFF, sdo := [] }
  counters := Vector.replicate 16 0
  mem := []
  pending := []

end Sys2Proof.Machine
end

