-- ==== Sys2Proof/Machine/Operands.lean ====
section
/-! DEFINITION. What the operands of a request or command address: legality of a request, of a geometry, of a region
entry and of a whole table; touch indices; and the lookup that classes a granule (R1 to R16, R19). -/

namespace Sys2Proof.Machine

/-- R1: the granule of a byte address. -/
def granuleOf (addr : Nat) : Nat := addr / 32

/-- R1: the position of a word address within its granule. -/
def wordInGranule (addr : Nat) : Nat := addr / 4 % 8

/-- R19: a request is malformed when its length is not 1, 2, 4 or 8 words or its address is not a multiple of its own
length in bytes. -/
def malformed (addr : BitVec 28) (len : Nat) : Bool :=
  !(len == 1 || len == 2 || len == 4 || len == 8) || addr.toNat % (4 * len) != 0

/-- R3: a legal record area geometry. -/
def Geometry.legal (g : Geometry) : Bool :=
  g.base % 4096 == 0 && 4096 ≤ g.base && g.size % 4096 == 0 && 16384 ≤ g.size && g.size ≤ 4194304 &&
    g.base + g.size ≤ Config.addressSpace

/-- R3: the granules of a record area. -/
def Geometry.covers (g : Geometry) (granule : Nat) : Bool :=
  g.base / 32 ≤ granule && granule < (g.base + g.size) / 32

/-- R6: the granules an entry covers. -/
def RegionEntry.covers (e : RegionEntry) (granule : Nat) : Bool :=
  e.mode != .off && e.base ≤ granule && granule < e.base + e.length

/-- Two runs of granules share one. -/
def runsOverlap (base1 end1 base2 end2 : Nat) : Bool := max base1 base2 < min end1 end2

/-- R6: an entry overlaps a record area. -/
def RegionEntry.overlapsArea (e : RegionEntry) (g : Geometry) : Bool :=
  e.mode != .off && runsOverlap e.base (e.base + e.length) (g.base / 32) ((g.base + g.size) / 32)

/-- R6: two entries overlap. -/
def RegionEntry.overlaps (e f : RegionEntry) : Bool :=
  e.mode != .off && f.mode != .off && runsOverlap e.base (e.base + e.length) f.base (f.base + f.length)

/-- R7, tests 2 to 6 (test 1 is the type of the mode): one entry, with respect to a geometry. -/
def RegionEntry.legal (e : RegionEntry) (g : Geometry) : Bool :=
  match e.mode with
  | .off => e.base == 0 && e.length == 0 && !e.elide
  | .journaled =>
      1 ≤ e.length && e.length ≤ Config.touchBits && e.base + e.length ≤ Config.granules && 8 ≤ e.base &&
        !e.overlapsArea g
  | .frozen =>
      !e.elide && 1 ≤ e.length && e.length ≤ Config.touchBits && e.base + e.length ≤ Config.granules &&
        8 ≤ e.base && !e.overlapsArea g

/-- R7, test 7: no two entries overlap. -/
def noneOverlap : List RegionEntry → Bool
  | [] => true
  | e :: rest => rest.all (fun f => !e.overlaps f) && noneOverlap rest

/-- R7, test 8: the sum of the lengths of the JOURNALED entries. -/
def journaledTotal (es : List RegionEntry) : Nat :=
  (es.map fun e => if e.mode = .journaled then e.length else 0).sum

/-- R7: a region table is legal with respect to a geometry. -/
def Table.legal (t : Table) (g : Geometry) : Bool :=
  t.toList.all (fun e => e.legal g) && noneOverlap t.toList && journaledTotal t.toList ≤ Config.touchBits

/-- R13: the touch offset of entry `j` of a table, the sum of the lengths of the JOURNALED entries with a lower
index. -/
def touchOffset (t : Table) (j : Nat) : Nat := journaledTotal (t.toList.take j)

/-- R14: the classes of a lookup, with what each carries. -/
inductive GranuleClass where
  | anchor
  | recordArea
  | journaled (index touch : Nat) (elide : Bool)
  | frozen (index : Nat)
  | unprotected
  deriving DecidableEq, Repr

/-- R13, R14: the class an entry of a table gives a granule it covers. -/
def entryClass (t : Table) (j : Nat) (e : RegionEntry) (granule : Nat) : GranuleClass :=
  match e.mode with
  | .off => .unprotected
  | .journaled => .journaled j (touchOffset t j + (granule - e.base)) e.elide
  | .frozen => .frozen j

/-- R14: a lookup of a granule in a table and a geometry (`none` is an unknown geometry). In a legal table at most one
entry covers a granule; in another table the first that covers it is taken (assumption 16). -/
def lookup (t : Table) (geometry : Option Geometry) (granule : Nat) : GranuleClass :=
  if granule < 8 then .anchor
  else if geometry.any (fun g => g.covers granule) then .recordArea
  else
    match t.toList.findIdx? (fun e => e.covers granule) with
    | none => .unprotected
    | some j =>
      match t.toList[j]? with
      | none => .unprotected
      | some e => entryClass t j e granule

/-- Whether a class is JOURNALED. -/
def GranuleClass.isJournaled : GranuleClass → Bool
  | .journaled _ _ _ => true
  | _ => false

/-- R2, R22: ANCHOR and RECORD_AREA are the part's own. -/
def GranuleClass.isOwn : GranuleClass → Bool
  | .anchor => true
  | .recordArea => true
  | _ => false

/-- R15, R16: the lookup with the active table and the geometry in effect. -/
def State.classOf (s : State) (granule : Nat) : GranuleClass :=
  lookup s.regions.active s.ctl.geometry granule

/-- R5: the capacity in effect, 0 while the geometry is unknown. -/
def State.capacity (s : State) : Nat :=
  match s.ctl.geometry with
  | none => 0
  | some g => g.capacity

/-- R35: an entry with no enabled byte is a null write. -/
def Entry.isNull (e : Entry) : Bool := e.data.all fun w => w.2 == 0

/-- R46: every enabled byte of an entry equals the old byte at the same position of the granule. -/
def Entry.unchangedBy (e : Entry) (old : List Word) : Bool :=
  (List.range e.data.length).all fun j =>
    match e.data[j]?, old[e.first + j]? with
    | some w, some o => (List.range 4).all fun lane => !w.2.getLsbD lane || laneByte w.1 lane == laneByte o lane
    | _, _ => true

/-- R53: the write access of an entry. -/
def Entry.access (e : Entry) : Access := .write (32 * e.granule + 4 * e.first) e.data

/-- R145: the granule of a slot's key. -/
def SlotKey.granule (k : SlotKey) : Nat := granuleOf k.addr.toNat

/-- R145: the key a slot holds. -/
def Slot.key? : Slot → Option SlotKey
  | .free => none
  | .hazardWait k => some k
  | .fetchPending k => some k
  | .fetching k _ => some k
  | .ready k _ _ => some k
  | .failed k _ => some k

/-- Whether a slot is in use for a granule. -/
def Slot.holdsGranule (sl : Slot) (granule : Nat) : Bool :=
  match sl.key? with
  | none => false
  | some k => k.granule == granule

end Sys2Proof.Machine
end

