-- ==== Sys2Proof/Machine/Formats.lean ====
section
/-! DEFINITION. The stored formats (06_stored_and_wire_formats.md): anchor copies and journal records as words, with
the tests of R96 and R98, and the codes of R99 to R101. -/

namespace Sys2Proof.Machine

/-! ### Codes -/

/-- R95: the mode byte of a stored entry. -/
def RegionMode.code : RegionMode → Nat
  | .off => 0
  | .journaled => 1
  | .frozen => 2

/-- R95, R96 test 5: the mode a byte stands for. -/
def RegionMode.ofCode : Nat → Option RegionMode
  | 0 => some .off
  | 1 => some .journaled
  | 2 => some .frozen
  | _ => none

/-- R95: the ending field. -/
def Ending.code : Ending → Nat
  | .formatted => 1
  | .committed => 2
  | .adopted => 3
  | .rolledBack => 4
  | .restarted => 5

/-- R96 test 3: the ending a number stands for. -/
def Ending.ofCode : Nat → Option Ending
  | 1 => some .formatted
  | 2 => some .committed
  | 3 => some .adopted
  | 4 => some .rolledBack
  | 5 => some .restarted
  | _ => none

/-- R99: the result codes. -/
def Result.code : Result → Byte
  | .ok => 0x00
  | .accepted => 0x01
  | .pending => 0x02
  | .busy => 0x03
  | .badState => 0x04
  | .badArgument => 0x05
  | .tableInvalid => 0x06
  | .powerHold => 0x07
  | .frameError => 0x08
  | .unknownCommand => 0x09
  | .memoryError => 0x0A

/-- R101: the journal state codes. -/
def JournalState.code : JournalState → Nat
  | .starting => 0
  | .unformatted => 1
  | .recoveryPending => 2
  | .recoveryFault => 3
  | .ready => 4
  | .halted => 5

/-- R101: the operation codes, 0 for NONE. -/
def OpKind.code : Option OpKind → Nat
  | none => 0
  | some .checkpoint => 1
  | some .adopt => 2
  | some .rollback => 3
  | some .format => 4
  | some .resume => 5

/-- R101: the phase codes. -/
def Phase.code : Phase → Nat
  | .noPhase => 0
  | .freeze => 1
  | .drain => 2
  | .sweepWait => 3
  | .anchor => 4
  | .switch => 5
  | .anchor0 => 6
  | .clear => 7
  | .anchor1 => 8
  | .quiesce => 9
  | .resolve => 10
  | .scan => 11
  | .walk => 12
  | .mapSweep => 13
  | .anchorRead => 14
  | .restart => 15
  | .reissue => 16

/-- R101: the outcome codes. -/
def OpOutcome.code : OpOutcome → Nat
  | .success => 1
  | .failed => 2

/-- R101: the halted cause codes, 0 for none. -/
def HaltCause.code : Option HaltCause → Nat
  | none => 0
  | some .oldRead => 1
  | some .flush => 2

/-- R101: the bank state codes. -/
def BankState.code : BankState → Nat
  | .empty => 0
  | .filling => 1
  | .flushing => 2
  | .flushFailed => 3

/-- R101: the slot state codes. -/
def Slot.code : Slot → Nat
  | .free => 0
  | .hazardWait _ => 1
  | .fetchPending _ => 2
  | .fetching _ _ => 3
  | .ready _ _ _ => 4
  | .failed _ _ => 5

/-- R101: the fault kind codes. -/
def FaultKind.code : FaultKind → Nat
  | .dataWrite => 1
  | .oldRead => 2
  | .flush => 3
  | .anchorWrite => 4
  | .fetch => 5
  | .scanRead => 6
  | .walkRead => 7
  | .walkWrite => 8
  | .recordCheck => 9
  | .clearWrite => 10
  | .tableDiscard => 11

/-- R101: the source codes. -/
def FaultSource.code : FaultSource → Nat
  | .epochController => 1
  | .journalWriter => 2
  | .classifier => 3
  | .commitStage => 4
  | .readSlots => 5

/-- R101: the codes of an inactive map's condition. -/
def MapCondition.inactiveCode : MapCondition → Nat
  | .clean => 0
  | .sweeping => 1
  | .dirty => 2
  | .live => 0

/-! ### Anchor copies (R95 to R97) -/

/-- R95: the three words of a stored entry: base, length, and mode with elide. -/
def RegionEntry.words (e : RegionEntry) : List Word :=
  [wordOfNat e.base, wordOfNat e.length, wordOf (byteOf e.mode.code) (if e.elide then 1 else 0) 0 0]

/-- R95: an anchor's words up to the check code. -/
def Anchor.body (a : Anchor) : List Word :=
  [Config.formatMark, a.generation, a.epoch, wordOfNat a.ending.code,
    wordOfNat a.geometry.base, wordOfNat a.geometry.size] ++
  a.table.toList.flatMap RegionEntry.words ++ [0]

/-- R94, R95: the 32 words of an anchor copy; the check code is computed over offsets 0 to 123. -/
def Anchor.words (a : Anchor) : List Word := a.body ++ [crc32 (wordsBytes a.body)]

/-- R95: one of the two halves a copy is written in: offsets 0 to 63, then 64 to 127. -/
def Anchor.half (a : Anchor) (second : Bool) : List Word :=
  if second then a.words.drop 16 else a.words.take 16

/-- R96, tests 4 and 5: a stored entry's words, read. -/
def entryOfWords (base length flags : Word) : Option RegionEntry :=
  if flags >>> 16 = 0 ∧ (laneByte flags 1).toNat ≤ 1 then
    (RegionMode.ofCode (laneByte flags 0).toNat).map fun m =>
      ⟨m, base.toNat, length.toNat, laneByte flags 1 == 1⟩
  else none

/-- The entries stored in consecutive triples of words. -/
def entriesOfWords : List Word → Option (List RegionEntry)
  | [] => some []
  | b :: l :: f :: rest =>
    match entryOfWords b l f, entriesOfWords rest with
    | some e, some es => some (e :: es)
    | _, _ => none
  | _ => none

/-- The table whose entries, in order, are the eight listed. -/
def tableOfEntries (es : List RegionEntry) : Option Table :=
  if h : es.length = 8 then some ⟨es.toArray, by simpa using h⟩ else none

/-- R96: an anchor copy as read, `none` when it is invalid: mark, check code, ending, fills, modes and elide bytes,
geometry and table, tested on the 32 words. -/
def anchorOfWords (ws : List Word) : Option Anchor :=
  match ws.take 6, ws[30]?, ws[31]? with
  | [mark, gen, ep, ending, base, size], some fill, some check =>
    if mark = Config.formatMark ∧ crc32 (wordsBytes (ws.take 31)) = check ∧ fill = 0 ∧ ws.length = 32 then
      match Ending.ofCode ending.toNat, (entriesOfWords ((ws.drop 6).take 24)).bind tableOfEntries with
      | some e, some t =>
        let g : Geometry := ⟨base.toNat, size.toNat⟩
        if g.legal ∧ t.legal g then some ⟨gen, ep, e, g, t⟩ else none
      | _, _ => none
    else none
  | _, _, _ => none

/-- R97: generation `a` is newer than generation `b`. -/
def newer (a b : Word) : Bool := 1 ≤ (a - b).toNat && (a - b).toNat ≤ 2147483647

/-- R97: the newest valid anchor of the two copies read, with the copy that holds it. -/
def newestOf : Option Anchor → Option Anchor → Option (Copy × Anchor)
  | none, none => none
  | some x, none => some (.a, x)
  | none, some y => some (.b, y)
  | some x, some y => if newer y.generation x.generation then some (.b, y) else some (.a, x)

/-- R162: the first byte of a copy. -/
def Copy.base : Copy → Nat
  | .a => 0
  | .b => 128

/-- R107: the copy an anchor is written to, the one that does not hold the newest anchor; copy A when there is none. -/
def anchorTarget : Option Copy → Copy
  | none => .a
  | some .a => .b
  | some .b => .a

/-! ### Journal records (R98) -/

/-- R98: the origin word: granule in bits 0 to 22, region index in bits 23 to 25, master tag in bits 26 to 28. -/
def JournalRecord.origin (r : JournalRecord) : Word :=
  (0 : BitVec 3) ++ r.master ++ BitVec.ofNat 3 r.region ++ BitVec.ofNat 23 r.granule

/-- R98: epoch, sequence and origin. -/
def JournalRecord.head (r : JournalRecord) : List Word := [r.epoch, wordOfNat r.seq, r.origin]

/-- R81, R98: the words of a record in its stored layout, with the check code over offsets 0 to 11 and 16 to 47. -/
def JournalRecord.words (r : JournalRecord) : List Word :=
  r.head ++ [crc32 (wordsBytes (r.head ++ r.old))] ++ r.old

/-- R98: the verdicts on a slot. -/
inductive Verdict where
  | valid | checkCode | epoch | sequence
  deriving DecidableEq, Repr

/-- R98: the verdict codes. -/
def Verdict.code : Verdict → Byte
  | .valid => 0
  | .checkCode => 1
  | .epoch => 2
  | .sequence => 3

/-- R98: the test of the words read from slot `slot` against the epoch in effect; the first test that fails names the
verdict. -/
def verdictOf (ws : List Word) (epochInEffect : Word) (slot : Nat) : Verdict :=
  match ws with
  | ep :: sq :: origin :: check :: old =>
    if crc32 (wordsBytes (ep :: sq :: origin :: old)) ≠ check then .checkCode
    else if ep = 0 ∨ ep ≠ epochInEffect then .epoch
    else if sq.toNat ≠ slot then .sequence
    else .valid
  | _ => .checkCode

/-- R98: the granule address in an origin word. -/
def originGranule (w : Word) : Nat := (w.setWidth 23).toNat

/-- R98: the master tag in an origin word. -/
def originMaster (w : Word) : BitVec 3 := (w >>> 26).setWidth 3

end Sys2Proof.Machine
end

