-- ==== Sys2Proof/Machine/Flags.lean ====
section
/-! DEFINITION. Flags, counters and the conditions the blocks read from one another: the sixteen counters (R100), the
attention causes and ATTN (R189), clear pending and the epoch in effect (R102), the warning level (R91), and the
queue, bank and map conditions that several rules test. -/

namespace Sys2Proof.Machine

/-! ### Counters -/

/-- R100: the sixteen counters. -/
inductive Counter where
  | writesAccepted | writesPerformed | readsDelivered | retriesQueueFull | retriesRead | retriesState
  | requestsRefused | recordsCreated | writesElided | writesDiscarded | flushes | slotsDiscarded
  | memoryErrors | epochsOpened | serviceDropped | slotsExhausted
  deriving DecidableEq, Repr

/-- R100: the number of a counter. -/
def Counter.index : Counter → Fin 16
  | .writesAccepted => 0
  | .writesPerformed => 1
  | .readsDelivered => 2
  | .retriesQueueFull => 3
  | .retriesRead => 4
  | .retriesState => 5
  | .requestsRefused => 6
  | .recordsCreated => 7
  | .writesElided => 8
  | .writesDiscarded => 9
  | .flushes => 10
  | .slotsDiscarded => 11
  | .memoryErrors => 12
  | .epochsOpened => 13
  | .serviceDropped => 14
  | .slotsExhausted => 15

/-- The value of a counter. -/
def State.counter (s : State) (k : Counter) : Word := s.counters[k.index]

/-- A counter rises by one, or stays saturated. -/
def State.bump (s : State) (k : Counter) : State :=
  { s with counters := s.counters.set k.index (satInc s.counters[k.index]) }

/-- A counter rises by one `n` times. -/
def State.bumpBy (s : State) (k : Counter) : Nat → State
  | 0 => s
  | n + 1 => (s.bump k).bumpBy k n

/-! ### Attention -/

/-- R100, R189: the attention causes. -/
inductive Cause where
  | opDone | fault | warnLevel | journalFull | halted | recoveryNeeded | pfQuiet | startDone
  deriving DecidableEq, Repr

/-- R100: the bit of a cause. -/
def Cause.bit : Cause → Byte
  | .opDone => 0x01
  | .fault => 0x02
  | .warnLevel => 0x04
  | .journalFull => 0x08
  | .halted => 0x10
  | .recoveryNeeded => 0x20
  | .pfQuiet => 0x40
  | .startDone => 0x80

/-- R189: a cause is set; setting one already set leaves it set. -/
def State.setCause (s : State) (c : Cause) : State :=
  { s with service := { s.service with causes := s.service.causes ||| c.bit } }

/-- R189: whether a cause is set. -/
def State.hasCause (s : State) (c : Cause) : Bool := s.service.causes &&& c.bit != 0

/-- R189: the level of ATTN. -/
def State.attn (s : State) : Bool := s.service.causes &&& s.service.mask != 0

/-! ### Epoch controller conditions -/

/-- R102: clear pending is set while the newest anchor carries epoch 0. -/
def EpochController.clearPending (c : EpochController) : Bool := c.newest.isSome && c.epoch == 0

/-- R102: the epoch in effect reads 0 while the newest anchor is NONE or clear pending is set. -/
def EpochController.epochInEffect (c : EpochController) : Word := if c.newest.isSome then c.epoch else 0

/-- R23: a ROLLBACK is in progress. -/
def EpochController.rollingBack (c : EpochController) : Bool := c.op == some .rollback

/-- R87: a ROLLBACK is in its RESOLVE phase, in which the journal writer requests and seals nothing. -/
def EpochController.resolving (c : EpochController) : Bool := c.rollingBack && c.phase == .resolve

/-- R56: a ROLLBACK is in its QUIESCE phase, in which the commit stage raises no request. -/
def EpochController.quiescing (c : EpochController) : Bool := c.rollingBack && c.phase == .quiesce

/-- R91: the warning level in effect. -/
def State.warnLevel (s : State) : Nat :=
  match s.ctl.geometry with
  | none => 0
  | some g => s.writer.warnSetting.getD (g.capacity * 3 / 4)

/-- R80: a drain demand is present. -/
def State.drainDemand (s : State) : Bool := s.ctl.drain || s.faults.hold

/-! ### Queue, bank and map conditions -/

/-- R34: the number of UNCLASSIFIED entries. -/
def WriteQueue.unclassifiedCount (q : WriteQueue) : Nat :=
  (q.entries.filter fun e => e.stage == .unclassified).length

/-- R148: the hazard test: some entry addresses the granule. -/
def WriteQueue.addresses (q : WriteQueue) (granule : Nat) : Bool :=
  q.entries.any fun e => e.granule == granule

/-- R109: every entry is UNCLASSIFIED, or the queue is empty. -/
def WriteQueue.drained (q : WriteQueue) : Bool := q.entries.all fun e => e.stage == .unclassified

/-- A bank by its number. -/
def JournalWriter.bank (w : JournalWriter) (b : Bool) : Bank := if b then w.bank1 else w.bank0

/-- The bank of that number replaced. -/
def JournalWriter.setBank (w : JournalWriter) (b : Bool) (k : Bank) : JournalWriter :=
  if b then { w with bank1 := k } else { w with bank0 := k }

/-- The number of the bank in a state, if any is. -/
def JournalWriter.bankIn (w : JournalWriter) (st : BankState) : Option Bool :=
  if w.bank0.state = st then some false else if w.bank1.state = st then some true else none

/-- R177: both banks are EMPTY. -/
def JournalWriter.banksEmpty (w : JournalWriter) : Bool :=
  w.bank0.state == .empty && w.bank1.state == .empty

/-- R74: a bank can accept a record. -/
def JournalWriter.canAccept (w : JournalWriter) : Bool :=
  match w.bankIn .filling with
  | some b => (w.bank b).records.length < Config.bankDepth
  | none => (w.bankIn .empty).isSome

/-- R60: a map by its number. -/
def TouchMaps.map (m : TouchMaps) (i : Bool) : TouchMap := if i then m.map1 else m.map0

/-- The map of that number replaced. -/
def TouchMaps.setMap (m : TouchMaps) (i : Bool) (t : TouchMap) : TouchMaps :=
  if i then { m with map1 := t } else { m with map0 := t }

/-- R60: the active map. -/
def TouchMaps.active (m : TouchMaps) : TouchMap := m.map m.activeIndex

/-- R60: the inactive map. -/
def TouchMaps.inactive (m : TouchMaps) : TouchMap := m.map (!m.activeIndex)

/-- The map the sweep engine is sweeping, `none` while the engine is idle. -/
def TouchMaps.sweeping (m : TouchMaps) : Option Bool :=
  if m.map0.condition = .sweeping then some false
  else if m.map1.condition = .sweeping then some true
  else none

/-- R62: the touch bit reads set when the active map is LIVE and the bit is set in it. -/
def TouchMaps.touched (m : TouchMaps) (touch : Nat) : Bool :=
  m.active.condition == .live && m.active.setBits.contains touch

end Sys2Proof.Machine
end

