-- ==== Sys2Proof/Machine/Memory.lean ====
section
/-! DEFINITION. The working memory behind the memory port, as a list of its bytes that are not 0 (assumption 4), and what
an access and its answer do there (R161, R167). -/

namespace Sys2Proof.Machine

/-- The working memory: (address, byte) pairs, addresses strictly rising, no byte equal to what an unlisted address
reads as. -/
abbrev Mem := List Host.Cell

/-- What an address that is not listed reads as (assumption 4, DESIGN CHOICE: the manual gives no contents). -/
def unlistedByte : Byte := 0

/-- The canonical form of a memory list above a bound. -/
def Mem.wfAbove : Option Nat → Mem → Bool
  | _, [] => true
  | low, (a, b) :: rest =>
    (match low with
      | none => true
      | some l => decide (l < a)) && decide (b ≠ unlistedByte) && Mem.wfAbove (some a) rest

/-- The canonical form: addresses strictly rising and no entry equal to `unlistedByte`. -/
def Mem.wf (m : Mem) : Bool := Mem.wfAbove none m

/-- The byte at an address. -/
def readByte : Mem → Nat → Byte
  | [], _ => unlistedByte
  | (a, b) :: rest, addr => if a = addr then b else readByte rest addr

/-- Put an entry in, or take one out where the byte is what an unlisted address reads as. -/
def writeByte : Mem → Nat → Byte → Mem
  | [], addr, v => if v = unlistedByte then [] else [(addr, v)]
  | (a, b) :: rest, addr, v =>
    if addr < a then (if v = unlistedByte then (a, b) :: rest else (addr, v) :: (a, b) :: rest)
    else if addr = a then (if v = unlistedByte then rest else (addr, v) :: rest)
    else (a, b) :: writeByte rest addr v

/-- R94, R161: the word at a word address, lane 0 at the lowest address. -/
def readWord (m : Mem) (addr : Nat) : Word :=
  wordOf (readByte m addr) (readByte m (addr + 1)) (readByte m (addr + 2)) (readByte m (addr + 3))

/-- Consecutive words from an address. -/
def readWords (m : Mem) (addr len : Nat) : List Word :=
  (List.range len).map fun j => readWord m (addr + 4 * j)

/-- R161: write the enabled lanes of a word; a byte whose enable is clear keeps its value. -/
def writeLanes (m : Mem) (addr : Nat) (w : LaneWord) : Mem :=
  (List.range 4).foldl
    (fun m lane => if w.2.getLsbD lane then writeByte m (addr + lane) (laneByte w.1 lane) else m) m

/-- R161: write the enabled bytes of words at ascending addresses. -/
def writeWords : Mem → Nat → List LaneWord → Mem
  | m, _, [] => m
  | m, addr, w :: rest => writeWords (writeLanes m addr w) (addr + 4) rest

/-- Write whole bytes at ascending addresses. -/
def writeBytes : Mem → Nat → List Byte → Mem
  | m, _, [] => m
  | m, addr, b :: rest => writeBytes (writeByte m addr b) (addr + 1) rest

/-- Words with all byte enables set. -/
def allLanes (ws : List Word) : List LaneWord := ws.map fun w => (w, 0xF#4)

/-- R161: the first byte address an access covers. -/
def Access.addr : Access → Nat
  | .read addr _ => addr
  | .write addr _ => addr

/-- R161: the length of an access in words. -/
def Access.len : Access → Nat
  | .read _ len => len
  | .write _ words => words.length

/-- R161: an access covers the bytes from its address to address + 4 × length − 1, all of them in the address space. -/
def Access.inside (a : Access) : Bool := a.addr + 4 * a.len ≤ Config.addressSpace

/-- The words an OKAY answer to a read of `len` words carries: those the devices return, and for a word the answer
does not list the word memory holds (assumption 5). -/
def answeredWords (m : Mem) (addr len : Nat) (seen : List Word) : List Word :=
  (List.range len).map fun j => (seen[j]?).getD (readWord m (addr + 4 * j))

/-- R161, R167: memory when a write is answered ERROR or abandoned: the bytes it addressed hold what the devices left. -/
def leftBehind (m : Mem) (a : Access) (left : List Byte) : Mem :=
  match a with
  | .read _ _ => m
  | .write addr words => writeBytes m addr (left.take (4 * words.length))

/-- R161: memory after the answer to a write. -/
def answeredMem (m : Mem) (a : Access) (ans : WriteAnswer) : Mem :=
  match a, ans with
  | .read _ _, _ => m
  | .write addr words, .okay => writeWords m addr words
  | .write _ _, .error left => leftBehind m a left

end Sys2Proof.Machine
end

