-- ==== Sys2Proof/Machine/Ops.lean ====
section
/-! DEFINITION. The shared operations of the blocks: the fault record and the halt decision, the read slots' notices,
the queue's departures, the banks, the touch maps and PFQUIET. The commands' own files compose them. -/

namespace Sys2Proof.Machine

/-! ### Small updates of a block -/

/-- The queue's entries replaced. -/
def State.withEntries (s : State) (es : List Entry) : State := { s with pwq := { s.pwq with entries := es } }

/-- The classifier's condition replaced. -/
def State.withClassifier (s : State) (c : Classifier) : State := { s with pwq := { s.pwq with classifier := c } }

/-- The journal state replaced. -/
def State.withJournal (s : State) (j : JournalState) : State := { s with ctl := { s.ctl with journal := j } }

/-- The phase and the epoch controller's access replaced. -/
def State.withPhase (s : State) (p : Phase) (w : EpochWork) : State :=
  { s with ctl := { s.ctl with phase := p, work := w } }

/-- The halted cause replaced. -/
def State.withHaltedCause (s : State) (c : Option HaltCause) : State :=
  { s with faults := { s.faults with haltedCause := c } }

/-- The journal writer replaced. -/
def State.withWriter (s : State) (w : JournalWriter) : State := { s with writer := w }

/-- The touch maps replaced. -/
def State.withMaps (s : State) (m : TouchMaps) : State := { s with maps := m }

/-- The read slots replaced. -/
def State.withReads (s : State) (r : ReadSlots) : State := { s with reads := r }

/-- The access in flight replaced. -/
def State.withPort (s : State) (p : Option InFlight) : State := { s with port := p }

/-- The working memory replaced. -/
def State.withMem (s : State) (m : Mem) : State := { s with mem := m }

/-! ### Operation end, faults and halts (R106, R112, R169, R171) -/

/-- R106: the operation in progress ends with an outcome: no operation and no phase, the freeze and the drain demand
lowered, the last-operation record written with the epoch in effect, and OP_DONE set. -/
def State.endOp (s : State) (outcome : OpOutcome) : State :=
  match s.ctl.op with
  | none => s
  | some kind =>
    { s with ctl := { s.ctl with
        op := none, phase := .noPhase, formatArgs := none, freeze := false, drain := false, work := .rest,
        resumeFlush := .notStarted, resumeRead := .notStarted,
        lastOp := some ⟨kind, outcome, s.ctl.epochInEffect⟩ } }.setCause .opDone

/-- R169: a report fills an empty fault record or counts as a later fault, and FAULT is set. -/
def State.recordFault (s : State) (r : FaultReport) : State :=
  { s with faults :=
      match s.faults.record with
      | none => { s.faults with record := some r }
      | some _ => { s.faults with laterFaults := min (s.faults.laterFaults + 1) Config.maxLaterFaults } }.setCause .fault

/-- R112: whether the operation in progress is a CHECKPOINT or FORMAT in its FREEZE or DRAIN phase. -/
def EpochController.failsOnHalt (c : EpochController) : Bool :=
  (c.op == some .checkpoint || c.op == some .format) && (c.phase == .freeze || c.phase == .drain)

/-- R171: the halt decision of a report of kind OLD_READ or FLUSH. In READY with no ROLLBACK in progress the journal state
becomes HALTED with its cause and HALTED is set, and a CHECKPOINT or FORMAT in FREEZE or DRAIN fails in the same
happening (R112). -/
def State.haltOn (s : State) (cause : HaltCause) : State :=
  if s.ctl.rollingBack || s.ctl.journal != .ready then s
  else
    let h := ((s.withJournal .halted).withHaltedCause (some cause)).setCause .halted
    if h.ctl.failsOnHalt then h.endOp .failed else h

/-- R169, R171: a fault report is taken. -/
def State.report (s : State) (r : FaultReport) : State :=
  match r.kind with
  | .oldRead => (s.recordFault r).haltOn .oldRead
  | .flush => (s.recordFault r).haltOn .flush
  | _ => s.recordFault r

/-! ### PFQUIET (R177) -/

/-- R177: the conditions of PFQUIET. -/
def State.quiet (s : State) : Bool :=
  !s.inReset && s.faults.hold && s.pwq.entries.isEmpty && s.writer.banksEmpty && s.ctl.op.isNone

/-- R177: PFQUIET is asserted, and PF_QUIET set, in the first happening in which the conditions hold. -/
def State.quietTest (s : State) : State :=
  if s.quiet && !s.faults.pfquiet then
    { s with faults := { s.faults with pfquiet := true } }.setCause .pfQuiet
  else s

/-! ### Read slots (R149, R150, R156, R157) -/

/-- Each slot replaced by its image. -/
def ReadSlots.mapSlots (r : ReadSlots) (f : Slot → Slot) : ReadSlots :=
  { r with slots := Vector.ofFn fun i => f r.slots[i] }

/-- One slot replaced. -/
def ReadSlots.setSlot (r : ReadSlots) (i : Fin 4) (sl : Slot) : ReadSlots :=
  { r with slots := r.slots.set i sl }

/-- R149: a slot when an entry of `granule` has left and `q` is the queue after the departure. -/
def Slot.afterDeparture (q : WriteQueue) (granule : Nat) : Slot → Slot
  | .hazardWait k => if k.granule = granule ∧ q.addresses granule = false then .fetchPending k else .hazardWait k
  | sl => sl

/-- R37, R149: the read-slot unit is told the granule of a departed entry. -/
def State.noteDeparture (s : State) (granule : Nat) : State :=
  s.withReads (s.reads.mapSlots (Slot.afterDeparture s.pwq granule))

/-- R150: a slot when a write to `granule` is accepted. -/
def Slot.afterAcceptance (granule : Nat) (sl : Slot) : Slot :=
  if sl.holdsGranule granule then
    match sl with
    | .fetchPending k => .hazardWait k
    | .fetching k _ => .fetching k true
    | .ready k _ _ => .hazardWait k
    | other => other
  else sl

/-- R26, R150: the read-slot unit is told the granule of an accepted entry. -/
def State.noteAcceptance (s : State) (granule : Nat) : State :=
  s.withReads (s.reads.mapSlots (Slot.afterAcceptance granule))

/-- R156: every slot becomes FREE. -/
def State.freeAllSlots (s : State) : State := s.withReads (s.reads.mapSlots fun _ => .free)

/-- R157: a slot whose granule lies in a newly activated record area becomes FREE. -/
def Slot.freedBy (g : Geometry) (sl : Slot) : Slot :=
  match sl.key? with
  | none => sl
  | some k => if g.covers k.granule then .free else sl

/-! ### Queue (R34, R37, R53) -/

/-- R34, R37: the entry at a position leaves the queue, and the read-slot unit is told its granule. -/
def State.depart (s : State) (i : Nat) : State :=
  match s.pwq.entries[i]? with
  | none => s
  | some e => (s.withEntries (s.pwq.entries.eraseIdx i)).noteDeparture e.granule

/-- R34: the position of the first entry in a stage; for UNCLASSIFIED, the oldest such entry. -/
def WriteQueue.firstIn (q : WriteQueue) (st : Stage) : Option Nat :=
  q.entries.findIdx? fun e => e.stage == st

/-- R53: a WAITING head becomes READY when the durable count exceeds its record sequence. -/
def headReady (durable : Nat) : List Entry → List Entry
  | [] => []
  | e :: rest =>
    if e.stage = .waiting ∧ e.recordSeq.any (fun q => q < durable) = true then { e with stage := .ready } :: rest
    else e :: rest

/-- R53: the commit stage examines the head entry. -/
def State.examineHead (s : State) : State := s.withEntries (headReady s.writer.durable s.pwq.entries)

/-! ### Banks (R74, R76 to R79, R87, R90, R91) -/

/-- R76: the seal conditions of a FILLING bank, apart from the other bank being EMPTY. -/
def State.sealWanted (s : State) (b : Bank) : Bool :=
  s.writer.flushThreshold ≤ b.records.length || s.writer.coalesceDemand || s.drainDemand ||
    b.records.length == Config.bankDepth

/-- R76: the writer when bank `b` is sealed. -/
def JournalWriter.sealed (w : JournalWriter) (b : Bool) : JournalWriter :=
  { w.setBank b { w.bank b with state := .flushing } with
      lastSealed := some b, coalesceTimer := none, coalesceDemand := false }

/-- R76: the seal test: the FILLING bank is sealed when the other bank is EMPTY and a condition holds; not in a
ROLLBACK's RESOLVE phase (R87). -/
def State.sealTest (s : State) : State :=
  match s.writer.bankIn .filling with
  | none => s
  | some b =>
    if !s.ctl.resolving && (s.writer.bank (!b)).state == .empty && s.sealWanted (s.writer.bank b) then
      (s.withWriter (s.writer.sealed b)).bump .flushes
    else s

/-- R79: the coalesce timer expires: the FILLING bank is sealed, or the demand is left pending. -/
def State.coalesceExpired (s : State) : State :=
  (s.withWriter { s.writer with coalesceTimer := none, coalesceDemand := true }).sealTest

/-- R78: the head entry is WAITING on a record in the FILLING bank. -/
def State.headAwaitsFilling (s : State) : Bool :=
  match s.pwq.entries.head?, s.writer.bankIn .filling with
  | some e, some b =>
    e.stage == .waiting && e.recordSeq.any fun q => (s.writer.bank b).records.any fun r => r.seq == q
  | _, _ => false

/-- R78: the start test of the coalesce timer; a coalesce time of 0 expires it in the same happening. -/
def State.coalesceTest (s : State) : State :=
  if s.headAwaitsFilling && s.writer.coalesceTimer.isNone && !s.writer.coalesceDemand then
    if s.writer.coalesceTime = 0 then s.coalesceExpired
    else s.withWriter { s.writer with coalesceTimer := some s.writer.coalesceTime }
  else s

/-- The tests of the write path that follow a change of the queue or of a bank, in order: the head (R53), the seal
(R76), the coalesce timer (R78). -/
def State.writePath (s : State) : State := s.examineHead.sealTest.coalesceTest

/-- R74: the bank a record enters: the FILLING one, otherwise the EMPTY one not sealed last. -/
def JournalWriter.bankChosen (w : JournalWriter) : Bool :=
  match w.bankIn .filling with
  | some b => b
  | none =>
    match w.lastSealed with
    | none => false
    | some b => !b

/-- R71, R72: a record enters a bank and the next sequence rises. -/
def JournalWriter.placed (w : JournalWriter) (r : JournalRecord) : JournalWriter :=
  let b := w.bankChosen
  { w.setBank b ⟨.filling, (w.bank b).records ++ [r]⟩ with nextSeq := w.nextSeq + 1 }

/-- R87: the trim of a ROLLBACK's RESOLVE phase. -/
def JournalWriter.trimmed (w : JournalWriter) : JournalWriter :=
  { w with bank0 := Bank.emptied, bank1 := Bank.emptied, nextSeq := w.durable,
           coalesceTimer := none, coalesceDemand := false }

/-- R88, R89: both counts set. -/
def JournalWriter.withCounts (w : JournalWriter) (n : Nat) : JournalWriter := { w with nextSeq := n, durable := n }

/-- R88: the WARN_LEVEL and JOURNAL_FULL attentions are re-armed. -/
def JournalWriter.rearmed (w : JournalWriter) : JournalWriter := { w with warnArmed := true, fullArmed := true }

/-- R91: the warning test. -/
def State.warnTest (s : State) : State :=
  if s.writer.warnArmed && s.warnLevel != 0 && s.warnLevel ≤ s.writer.durable then
    (s.withWriter { s.writer with warnArmed := false }).setCause .warnLevel
  else s

/-- R90: the classifier reports a full journal. -/
def State.fullReport (s : State) : State :=
  if s.writer.fullArmed then (s.withWriter { s.writer with fullArmed := false }).setCause .journalFull else s

/-! ### Touch maps (R61, R63, R64, R66) -/

/-- R61: a map when the sweep engine takes it: SWEEPING, and the bits it held have no further effect. -/
def TouchMap.swept (_m : TouchMap) : TouchMap := ⟨[], .sweeping⟩

/-- R63: a bit number put into the rising list of set bits. -/
def insertBit (i : Nat) : List Nat → List Nat
  | [] => [i]
  | j :: rest => if i < j then i :: j :: rest else if i = j then j :: rest else j :: insertBit i rest

/-- R63: a bit of the active map is set; none can be set while the map is SWEEPING (R60). -/
def TouchMaps.setTouch (m : TouchMaps) (touch : Nat) : TouchMaps :=
  if m.active.condition = .live then
    m.setMap m.activeIndex { m.active with setBits := insertBit touch m.active.setBits }
  else m

/-- The maps with their roles exchanged: the new active map and the new inactive one. -/
def TouchMaps.exchanged (m : TouchMaps) (newActive newInactive : TouchMap) : TouchMaps :=
  if m.activeIndex then ⟨false, newActive, newInactive⟩ else ⟨true, newInactive, newActive⟩

/-- R64: the flip: the inactive map becomes active and LIVE, and the other becomes inactive, taken at once by an idle
sweep engine or DIRTY while the engine is busy. -/
def TouchMaps.flipped (m : TouchMaps) : TouchMaps :=
  m.exchanged { m.inactive with condition := .live }
    (if m.sweeping.isNone then m.active.swept else { m.active with condition := .dirty })

/-- R66: the retirement of the active map: as a flip when the inactive map is CLEAN; when it is SWEEPING it becomes
active and stays SWEEPING, and the retired map becomes DIRTY. An inactive map is not DIRTY at a retirement. -/
def TouchMaps.retired (m : TouchMaps) : TouchMaps :=
  match m.inactive.condition with
  | .clean => m.flipped
  | .sweeping => m.exchanged m.inactive { m.active with condition := .dirty }
  | _ => m

/-- R61: a map when its sweep has ended, active or inactive. -/
def TouchMap.sweptClean (isActive : Bool) : TouchMap := ⟨[], if isActive then .live else .clean⟩

/-- R61: the sweep in progress ends; the engine takes the other map in the same happening when it is DIRTY. -/
def TouchMaps.sweepEnded (m : TouchMaps) : TouchMaps :=
  match m.sweeping with
  | none => m
  | some i =>
    let done := m.setMap i (TouchMap.sweptClean (i == m.activeIndex))
    if (done.map (!i)).condition = .dirty then done.setMap (!i) (done.map (!i)).swept else done

/-! ### Memory port (R163, R165, R166) -/

/-- R165, R166: an answer reaches its owner: the port becomes IDLE, and an ERROR is counted. -/
def State.answered (s : State) (isError : Bool) : State :=
  if isError then (s.withPort none).bump .memoryErrors else s.withPort none

/-- The access in flight for an owner. -/
def State.inFlightFor (s : State) (owner : Requester) : Option Access :=
  match s.port with
  | some f => if f.owner = owner then some f.access else none
  | none => none

/-- The words an OKAY answer to the access in flight carries. -/
def State.wordsAnswered (s : State) (a : Access) (seen : List Word) : List Word :=
  answeredWords s.mem a.addr a.len seen

end Sys2Proof.Machine
end

