-- ==== Sys2Proof/Machine/Epoch.lean ====
section
/-! DEFINITION. The epoch controller's shared operations: activation, anchors, the phases of the long operations and of
start-up, and the tests that end a phase in the happening that makes its condition true (07 and 08 of spec/). -/

namespace Sys2Proof.Machine

/-! ### Activation (R5, R8, R12, R91, R157, R188) -/

/-- R91: an explicit warning level above the new capacity is replaced by DEFAULT. -/
def warnSettingFor (capacity : Nat) : Option Nat → Option Nat
  | none => none
  | some v => if v ≤ capacity then some v else none

/-- R188: a PENDING peek stops being pending when another geometry becomes the one in effect. No read is withdrawn, and a
peek that waits still has its own read requested in its turn (R187, assumption 19). -/
def ServicePort.afterGeometry (p : ServicePort) : ServicePort :=
  if p.response.result = .pending then
    { p with response := { p.response with result := .badState, payload := [] } }
  else p

/-- R5, R12: the geometry in effect becomes `g`. Where that is a new geometry, the warning level is recomputed (R91), the
slots over the new area are freed (R157) and a PENDING peek ends (R188). -/
def State.withGeometry (s : State) (g : Geometry) : State :=
  if s.ctl.geometry = some g then s
  else
    { s with
        ctl := { s.ctl with geometry := some g },
        writer := { s.writer with warnSetting := warnSettingFor g.capacity s.writer.warnSetting },
        reads := s.reads.mapSlots (Slot.freedBy g),
        service := s.service.afterGeometry }

/-- R8, R12: the active table becomes a copy of the staged table. -/
def State.activateStaged (s : State) : State := { s with regions := { s.regions with active := s.regions.staged } }

/-- R12: the anchor write of a phase that activates the staged table: ANCHOR for CHECKPOINT and ADOPT, ANCHOR0 for
CHECKPOINT and FORMAT, ANCHOR1 for ADOPT. -/
def activatesTable : Option OpKind → Phase → Bool
  | some .checkpoint, .anchor => true
  | some .adopt, .anchor => true
  | some .checkpoint, .anchor0 => true
  | some .format, .anchor0 => true
  | some .adopt, .anchor1 => true
  | _, _ => false

/-- R12, R113: what the acknowledged anchor of the present phase activates. -/
def State.activate (s : State) : State :=
  let t := if activatesTable s.ctl.op s.ctl.phase then s.activateStaged else s
  match s.ctl.op, s.ctl.phase, s.ctl.formatArgs with
  | some .format, .anchor0, some g => t.withGeometry g
  | _, _, _ => t

/-! ### Anchors (R107, R110, R113, R115, R117, R130, R140) -/

/-- R107: the generation of the next anchor. -/
def EpochController.nextGeneration (c : EpochController) : Word :=
  if c.newest.isSome then c.generation + 1 else 1

/-- R113, R115, R117, R140: the ending an operation's anchors carry; start-up's come from the cycle it runs (R127,
R130). -/
def EpochController.ending (c : EpochController) : Ending :=
  match c.op with
  | some .checkpoint => .committed
  | some .adopt => .adopted
  | some .rollback => .rolledBack
  | some .format => .formatted
  | some .resume => .restarted
  | none => (c.startCycle.map StartCycle.ending).getD .restarted

/-- R113: the geometry an anchor carries: a FORMAT's arguments, otherwise the geometry in effect. -/
def EpochController.anchorGeometry (c : EpochController) : Geometry :=
  match c.op, c.formatArgs with
  | some .format, some g => g
  | _, _ => c.geometry.getD ⟨0, 0⟩

/-- R110, R113, R115, R117, R130, R140: whether the anchor of a phase carries the staged table; it carries the active one
otherwise. -/
def writesStaged : Option OpKind → Phase → Bool
  | some .checkpoint, _ => true
  | some .format, _ => true
  | some .adopt, .anchor0 => false
  | some .adopt, _ => true
  | _, _ => false

/-- R107: the anchor a phase writes, with the epoch given. -/
def State.buildAnchor (s : State) (phase : Phase) (epoch : Word) : Anchor where
  generation := s.ctl.nextGeneration
  epoch := epoch
  ending := s.ctl.ending
  geometry := s.ctl.anchorGeometry
  table := if writesStaged s.ctl.op phase then s.regions.staged else s.regions.active

/-- R107: a phase that writes an anchor is entered, and the write of its first half is requested. -/
def State.startAnchor (s : State) (phase : Phase) (epoch : Word) : State :=
  s.withPhase phase (.anchorWrite false (s.buildAnchor phase epoch))

/-- R110, R117, R118, R140: the anchor phase is entered: ANCHOR0 for FORMAT and when the epoch advance wraps, otherwise
ANCHOR with the next epoch. -/
def State.enterAnchorPhase (s : State) : State :=
  if s.ctl.op = some .format ∨ s.ctl.epochInEffect = Config.lastEpoch then s.startAnchor .anchor0 0
  else s.startAnchor .anchor (s.ctl.epochInEffect + 1)

/-- R65: the SWEEP_WAIT phase ends when the inactive map is CLEAN. -/
def State.sweepWaitTest (s : State) : State :=
  if s.maps.inactive.condition = .clean then s.enterAnchorPhase else s

/-- R65: SWEEP_WAIT is entered. -/
def State.enterSweepWait (s : State) : State := (s.withPhase .sweepWait .rest).sweepWaitTest

/-! ### FREEZE and DRAIN (R108, R109) -/

/-- R80: the drain demand is raised or lowered. -/
def State.withDrain (s : State) (b : Bool) : State := { s with ctl := { s.ctl with drain := b } }

/-- R109: DRAIN ends when every entry of the queue is UNCLASSIFIED; the drain demand is lowered. -/
def State.drainTest (s : State) : State :=
  if s.pwq.drained then (s.withDrain false).enterSweepWait else s

/-- R80, R109: DRAIN is entered and raises the drain demand, which seals the FILLING bank when it may. -/
def State.enterDrain (s : State) : State :=
  (((s.withPhase .drain .rest).withDrain true).sealTest).drainTest

/-- R49, R108: FREEZE ends when the classifier is IDLE. -/
def State.freezeTest (s : State) : State :=
  if s.pwq.classifier = .idle then s.enterDrain else s

/-! ### QUIESCE, RESOLVE, SCAN and WALK (R134 to R138) -/

/-- R102: record count unknown is set or cleared. -/
def State.withCountUnknown (s : State) (b : Bool) : State := { s with ctl := { s.ctl with countUnknown := b } }

/-- R102: walk remaining. -/
def State.withWalkRemaining (s : State) (n : Nat) : State := { s with ctl := { s.ctl with walkRemaining := n } }

/-- R137: SCAN is entered. -/
def State.enterScan (s : State) : State := (s.withPhase .scan (.scanning 0)).withWalkRemaining 0

/-- R138: WALK is entered with walk remaining D, the durable count; it ends at once when D is 0. -/
def State.enterWalk (s : State) : State :=
  if s.writer.durable = 0 then (s.withWalkRemaining 0).enterSweepWait
  else (s.withWalkRemaining s.writer.durable).withPhase .walk (.walkReading (s.writer.durable - 1))

/-- A record write is in flight. -/
def State.recordWriteInFlight (s : State) : Bool := (s.inFlightFor .journalWriter).isSome

/-- R87: the trim, made in RESOLVE once no record write is in flight. -/
def State.trimTest (s : State) : State :=
  if s.recordWriteInFlight then s else s.withWriter s.writer.trimmed

/-- R136: RESOLVE ends when the queue is empty, the trim is done and the classifier is IDLE; SCAN follows when the record
count is unknown, and WALK otherwise. -/
def State.resolveEndTest (s : State) : State :=
  if s.pwq.entries = [] ∧ s.recordWriteInFlight = false ∧ s.pwq.classifier = .idle then
    if s.ctl.countUnknown then s.enterScan else s.enterWalk
  else s

/-- R87, R136: the tests of the RESOLVE phase. -/
def State.resolveTest (s : State) : State := s.trimTest.resolveEndTest

/-- R135: what RESOLVE does with an entry. -/
inductive Fate where
  | discard
  | tableDiscard
  | elide
  | keep (e : Entry)
  deriving DecidableEq, Repr

/-- R135: the fate of an entry, by the class of its granule and its stage. -/
def State.fateOf (s : State) (e : Entry) : Fate :=
  match s.classOf e.granule, e.stage with
  | .journaled _ _ _, _ => .discard
  | .unprotected, .unclassified =>
    if e.isNull then .elide
    else .keep { e with stage := .ready, classEpoch := some s.ctl.epochInEffect }
  | _, .unclassified => .tableDiscard
  | _, _ => .keep e

/-- R39: the report of a TABLE_DISCARD. -/
def State.tableDiscardReport (s : State) (e : Entry) : FaultReport :=
  ⟨.tableDiscard, .classifier, some e.granule, some e.master, some s.ctl.epochInEffect, none⟩

/-- R39, R40, R135: what the departure of an entry in RESOLVE counts and reports. -/
def State.chargeFate (s : State) (e : Entry) : Fate → State
  | .discard => (s.noteDeparture e.granule).bump .writesDiscarded
  | .tableDiscard => ((s.noteDeparture e.granule).bump .writesDiscarded).report (s.tableDiscardReport e)
  | .elide => (s.noteDeparture e.granule).bump .writesElided
  | .keep _ => s

/-- The entry a fate keeps. -/
def Fate.kept? : Fate → Option Entry
  | .keep e => some e
  | _ => none

/-- R135: the queue is resolved: each entry meets its fate, judged in the state at entry; the departures are noticed,
counted and reported in queue order. -/
def State.resolveQueue (s : State) : State :=
  s.pwq.entries.foldl (fun acc e => acc.chargeFate e (s.fateOf e))
    (s.withEntries (s.pwq.entries.filterMap fun e => (s.fateOf e).kept?))

/-- R136: the classifier at the entry of RESOLVE: a granted read is left to be answered, and otherwise it becomes IDLE. -/
def State.resolveClassifier (s : State) : State :=
  if (s.inFlightFor .classifier).isSome then s else s.withClassifier .idle

/-- R87, R135, R136: RESOLVE is entered. -/
def State.enterResolve (s : State) : State :=
  let r := (s.withPhase .resolve .rest).resolveQueue.resolveClassifier
  (r.withWriter { r.writer with coalesceTimer := none, coalesceDemand := false }).resolveTest

/-- R134: QUIESCE ends when no commit access is in flight. -/
def State.quiesceTest (s : State) : State :=
  if (s.inFlightFor .commitStage).isSome then s else s.enterResolve

/-! ### REISSUE (R119, R120) -/

/-- R120: a FLUSH_FAILED bank or a HELD classifier stands. -/
def State.stoppedWork (s : State) : Bool :=
  (s.writer.bankIn .flushFailed).isSome ||
    match s.pwq.classifier with
    | .held _ => true
    | _ => false

/-- R120: a RESUME ends in the happening in which the last of its items completes. -/
def State.resumeTest (s : State) : State :=
  if s.ctl.resumeFlush = .outstanding ∨ s.ctl.resumeRead = .outstanding then s
  else if s.ctl.resumeFlush = .failed ∨ s.ctl.resumeRead = .failed then s.endOp .failed
  else if s.stoppedWork then s.endOp .success
  else ((s.withJournal .ready).withHaltedCause none).endOp .success

/-- R120: an item that is outstanding completes. -/
def ResumeItem.completed (i : ResumeItem) (ok : Bool) : ResumeItem :=
  match i with
  | .outstanding => if ok then .succeeded else .failed
  | other => other

/-- R120: the flush item completes. -/
def State.flushItemDone (s : State) (ok : Bool) : State :=
  { s with ctl := { s.ctl with resumeFlush := s.ctl.resumeFlush.completed ok } }

/-- R120: the read item completes. -/
def State.readItemDone (s : State) (ok : Bool) : State :=
  { s with ctl := { s.ctl with resumeRead := s.ctl.resumeRead.completed ok } }

/-! ### The tests that end a phase -/

/-- R104: the phases that end by a condition on the queue, the banks, the classifier or the port, tested in the
happening that may have made the condition true. -/
def State.advance (s : State) : State :=
  match s.ctl.phase with
  | .freeze => s.freezeTest
  | .drain => s.drainTest
  | .quiesce => s.quiesceTest
  | .resolve => s.resolveTest
  | .reissue => s.resumeTest
  | _ => s

/-- The tests that follow a happening on the write path: the head, the seal and the coalesce timer, then the phase of the
operation, then PFQUIET (assumption 17). -/
def State.settle (s : State) : State := s.writePath.advance.quietTest

/-! ### Switch point, start-up's end and failures (R111, R116, R126 to R132, R142) -/

/-- R52: an entry at a switch point that opens `epoch`. -/
def Entry.atSwitch (epoch : Word) (e : Entry) : Entry :=
  if e.stage = .ready ∧ e.recordSeq = none ∧ e.classEpoch ≠ some epoch then
    { e with stage := .unclassified, classEpoch := none, region := none }
  else e

/-- R88, R64: a new epoch opens: counts 0, attentions re-armed, maps flipped. -/
def State.openEpoch (s : State) : State :=
  (s.withWriter (s.writer.withCounts 0).rearmed).withMaps s.maps.flipped

/-- R111: the switch point, after the anchor's acknowledgement and activation. -/
def State.switchPoint (s : State) : State :=
  (((((s.openEpoch.withEntries (s.pwq.entries.map (Entry.atSwitch s.ctl.epochInEffect))).withCountUnknown
    false).withWalkRemaining 0).withJournal .ready).withHaltedCause none).endOp .success |>.bump .epochsOpened

/-- R132: STARTING ends in journal state `j`: START_DONE is set, and RECOVERY_NEEDED too unless `j` is READY. -/
def State.endStart (s : State) (j : JournalState) : State :=
  let t := { s with ctl := { s.ctl with journal := j, phase := .noPhase, work := .rest, startCycle := none } }
  if j = .ready then t.setCause .startDone else (t.setCause .startDone).setCause .recoveryNeeded

/-- R130: the acknowledgement of the RESTARTED anchor, or of the ANCHOR1 that stands in its place. -/
def State.restartDone (s : State) : State := (s.openEpoch.bump .epochsOpened).endStart .ready

/-- R127: the acknowledgement of the ANCHOR1 of an interrupted clear cycle; the maps are not flipped. -/
def State.clearResumed (s : State) : State :=
  ((s.withWriter (s.writer.withCounts 0).rearmed).bump .epochsOpened).endStart .ready

/-- R66: the active map is retired when the journal state passes into recovery from READY or HALTED. -/
def State.retireTest (s : State) : State :=
  if s.ctl.journal = .ready ∨ s.ctl.journal = .halted then s.withMaps s.maps.retired else s

/-- The operation in progress fails into RECOVERY_FAULT: the active map is retired from READY or HALTED, the halted cause
becomes none, the operation ends FAILED (R116, R142). -/
def State.failIntoRecovery (s : State) : State :=
  ((s.retireTest.withJournal .recoveryFault).withHaltedCause none).endOp .failed

/-- R116: whether a failed clear cycle discards an entry. -/
def State.lostToClear (s : State) (e : Entry) : Bool :=
  e.stage == .unclassified && (s.classOf e.granule).isJournaled

/-- R116: every UNCLASSIFIED entry whose granule is classed JOURNALED is discarded. -/
def State.discardLost (s : State) : State :=
  (s.pwq.entries.filter s.lostToClear).foldl
    (fun acc e => (acc.noteDeparture e.granule).bump .writesDiscarded)
    (s.withEntries (s.pwq.entries.filter fun e => !s.lostToClear e))

/-- R116, R127, R130: a clear cycle fails: an operation's, or start-up's. -/
def State.cycleFailed (s : State) : State :=
  if s.ctl.journal = .starting then s.endStart .recoveryFault else s.discardLost.failIntoRecovery

/-- R112, R117, R118, R127, R130, R140: an anchor write fails, by the phase and operation that wrote it. -/
def State.anchorFailed (s : State) : State :=
  if s.ctl.journal = .starting then s.endStart .recoveryFault
  else if s.ctl.phase = .anchor1 then s.cycleFailed
  else
    match s.ctl.op with
    | some .adopt => (s.withJournal .recoveryFault).endOp .failed
    | some .rollback => s.failIntoRecovery
    | _ => s.endOp .failed

/-- R107: the report of a failed anchor write. -/
def anchorWriteReport (a : Anchor) : FaultReport :=
  ⟨.anchorWrite, .epochController, none, none, some a.epoch, none⟩

/-- R107: an anchor write fails. -/
def State.anchorWriteFailed (s : State) (a : Anchor) : State := (s.report (anchorWriteReport a)).anchorFailed

/-! ### The acknowledgement of an anchor (R107) and the clear cycle (R113 to R115) -/

/-- R107: the newest anchor becomes the target copy, with the generation and epoch just written. -/
def State.acknowledge (s : State) (a : Anchor) : State :=
  { s with ctl := { s.ctl with
      newest := some (anchorTarget s.ctl.newest), generation := a.generation, epoch := a.epoch } }

/-- R113: an epoch-0 anchor is acknowledged: both counts become 0 without re-arming, record count unknown is cleared, and
CLEAR is entered. -/
def State.beginClear (s : State) : State :=
  ((s.withWriter (s.writer.withCounts 0)).withCountUnknown false).withPhase .clear (.clearing 0)

/-- R115: phase ANCHOR1 is entered. -/
def State.enterAnchor1 (s : State) : State := s.startAnchor .anchor1 1

/-- R107, R111, R113, R115, R127, R130: an anchor write is acknowledged, and the phase adds what it adds. -/
def State.anchorAcknowledged (s : State) (a : Anchor) : State :=
  let t := (s.acknowledge a).activate
  match t.ctl.phase with
  | .anchor => t.switchPoint
  | .anchor0 => t.beginClear
  | .anchor1 =>
    if t.ctl.journal = .starting then
      if (t.ctl.startCycle.map StartCycle.restarting).getD false then t.restartDone else t.clearResumed
    else t.switchPoint
  | .restart => t.restartDone
  | _ => t.withPhase t.ctl.phase .rest

/-! ### Start-up (R124 to R130) -/

/-- R127, R130: start-up runs a clear cycle. -/
def State.withStartCycle (s : State) (c : StartCycle) : State := { s with ctl := { s.ctl with startCycle := some c } }

/-- R130: RESTART is entered, or the clear cycle in its place when the epoch advance wraps. -/
def State.enterRestart (s : State) : State :=
  if s.ctl.epochInEffect = Config.lastEpoch then
    (s.withStartCycle ⟨.restarted, true⟩).startAnchor .anchor0 0
  else s.startAnchor .restart (s.ctl.epochInEffect + 1)

/-- R128, R129, R137: a scan completes with D valid records. -/
def State.scanCompleted (s : State) (d : Nat) : State :=
  let t := (s.withWriter (s.writer.withCounts d)).withCountUnknown false
  if s.ctl.journal = .starting then
    if d = 0 then t.enterRestart else t.endStart .recoveryPending
  else t.enterWalk

/-- R128, R129, R137, R142: a scan fails at slot `i`. -/
def State.scanFailed (s : State) (i : Nat) : State :=
  let r := s.report ⟨.scanRead, .epochController, none, none, some s.ctl.epochInEffect, some i⟩
  let t := (r.withWriter (r.writer.withCounts i)).withCountUnknown true
  if s.ctl.journal = .starting then t.endStart .recoveryFault else t.failIntoRecovery

/-- R139, R142: the walk fails. -/
def State.walkFailed (s : State) (r : FaultReport) : State :=
  ((s.report r).withCountUnknown true).failIntoRecovery

/-- R125: the newest valid anchor's copy, generation, epoch and table are loaded, the table into both copies. -/
def State.loaded (s : State) (copy : Copy) (a : Anchor) : State :=
  { s with
    ctl := { s.ctl with newest := some copy, generation := a.generation, epoch := a.epoch }
    regions := ⟨a.table, a.table⟩ }

/-- R125 to R129: start-up selects the newest valid anchor, or ends UNFORMATTED when there is none. -/
def State.selectAnchor (s : State) (found : Option (Copy × Anchor)) : State :=
  match found with
  | none => s.endStart .unformatted
  | some (copy, a) =>
    let t := (s.loaded copy a).withGeometry a.geometry
    if a.epoch = 0 then (t.withStartCycle ⟨a.ending, false⟩).withPhase .clear (.clearing 0)
    else t.withPhase .scan (.scanning 0)

end Sys2Proof.Machine
end

