-- ==== Sys2Proof/Machine/HostPort.lean ====
section
/-! DEFINITION. HOST_READ and HOST_WRITE: the acceptance decision of the host port (R17 to R33) and the read slots'
answer to a read (R146, R147). -/

namespace Sys2Proof.Machine

/-- While the RESET line is asserted the part takes nothing but RESET and PFAIL (R33, R190; assumption 8). -/
def State.running (s t : State) : Host.Outcome State Fault Refusal := .next (if s.inReset then s else t)

/-- R18: the response to the request in hand. -/
def State.answerHost (s : State) (r : HostResponse) : State := { s with host := { s.host with response := some r } }

/-- R32: an ERROR response of the host port. -/
def State.hostError (s : State) : State := (s.answerHost .error).bump .requestsRefused

/-- R18, R32, R159: a RETRY response, with the counter that its ground increments. -/
def State.hostRetry (s : State) (k : Counter) : State := (s.answerHost .retry).bump k

/-- The numbers of the read slots, lowest first. -/
def slotNumbers : List (Fin 4) := [0, 1, 2, 3]

/-- R146: the slot in use with a key. -/
def ReadSlots.matching (r : ReadSlots) (k : SlotKey) : Option (Fin 4) :=
  slotNumbers.find? fun i => r.slots[i].key? == some k

/-- R147: the FREE slot with the lowest number. -/
def ReadSlots.lowestFree (r : ReadSlots) : Option (Fin 4) :=
  slotNumbers.find? fun i => r.slots[i] == .free

/-- R147, R148: the state a slot takes with a key, by the hazard test. -/
def Slot.allocated (q : WriteQueue) (k : SlotKey) : Slot :=
  if q.addresses k.granule then .hazardWait k else .fetchPending k

/-- R146: a read that matches slot `i` is answered by the slot's state. -/
def State.readMatched (s : State) (i : Fin 4) : State :=
  match s.reads.slots[i] with
  | .ready _ words _ => ((s.withReads (s.reads.setSlot i .free)).answerHost (.data words)).bump .readsDelivered
  | .failed _ _ => (s.withReads (s.reads.setSlot i .free)).hostError
  | _ => s.hostRetry .retriesRead

/-- R147: a read that matches no slot is allocated the lowest FREE one, or none. -/
def State.readAllocated (s : State) (k : SlotKey) : State :=
  match s.reads.lowestFree with
  | some i => (s.withReads (s.reads.setSlot i (Slot.allocated s.pwq k))).hostRetry .retriesRead
  | none => s.hostRetry .slotsExhausted

/-- R146, R147: the read-slot unit's answer to a read handed to it. -/
def State.slotRead (s : State) (k : SlotKey) : State :=
  match s.reads.matching k with
  | some i => s.readMatched i
  | none => s.readAllocated k

/-- R23: a legal READ past STARTING and the part's own places. -/
def State.decideRead (s : State) (k : SlotKey) : State :=
  if s.ctl.rollingBack && (s.classOf k.granule).isJournaled then s.hostRetry .retriesState else s.slotRead k

/-- R24: a write is refused: its granule is FROZEN, or JOURNALED while journaling cannot proceed. -/
def State.writeRefused (s : State) (granule : Nat) : Bool :=
  match s.classOf granule with
  | .frozen _ => true
  | .journaled _ _ _ =>
      s.ctl.journal == .recoveryPending || s.ctl.journal == .recoveryFault || s.ctl.clearPending
  | _ => false

/-- R26: the entry a write becomes. -/
def State.newEntry (s : State) (master : BitVec 3) (addr : BitVec 28) (len : Nat) (data : List LaneWord) : Entry where
  number := s.host.nextNumber
  master := master
  granule := granuleOf addr.toNat
  first := wordInGranule addr.toNat
  len := len
  data := data
  stage := .unclassified
  region := none
  recordSeq := none
  classEpoch := none

/-- R26: a write is accepted. -/
def State.acceptWrite (s : State) (e : Entry) : State :=
  let t := (s.withEntries (s.pwq.entries ++ [e])).noteAcceptance e.granule
  ({ t with host := ⟨t.host.nextNumber + 1, some .okay⟩ }).bump .writesAccepted

/-- R24, R25: a legal WRITE past STARTING and the part's own places. -/
def State.decideWrite (s : State) (e : Entry) : State :=
  if s.writeRefused e.granule then s.hostError
  else if s.faults.hold then s.hostRetry .retriesState
  else if s.ctl.rollingBack then s.hostRetry .retriesState
  else if Config.queueDepth ≤ s.pwq.entries.length then s.hostRetry .retriesQueueFull
  else s.acceptWrite e

/-- R20, R21, R22: the checks common to reads and writes, and then the decision of the kind. -/
def State.decideHost (s : State) (addr : BitVec 28) (len : Nat) (decided : State) : State :=
  if malformed addr len then s.hostError
  else if s.ctl.journal = .starting then s.hostRetry .retriesState
  else if (s.classOf (granuleOf addr.toNat)).isOwn then s.hostError
  else decided

/-- HOST_READ (R17 to R23, R146, R147). -/
def execHostRead (master : BitVec 3) (addr : BitVec 28) (len : Nat) (s : State) : Host.Outcome State Fault Refusal :=
  s.running (s.decideHost addr len (s.decideRead ⟨master, addr, len⟩))

/-- HOST_WRITE (R17 to R22, R24 to R26, R150). -/
def execHostWrite (master : BitVec 3) (addr : BitVec 28) (len : Nat) (data : List LaneWord) (s : State) :
    Host.Outcome State Fault Refusal :=
  s.running (s.decideHost addr len (s.decideWrite (s.newEntry master addr len data)))

end Sys2Proof.Machine
end

