-- ==== Sys2Proof/Machine/WritePath.lean ====
section
/-! DEFINITION. The write lane after acceptance: CLASSIFIER_TAKE, OLD_DATA_READ_DONE, COALESCE_TIMER_EXPIRY,
RECORD_WRITE_DONE and COMMIT_WRITE_DONE. -/

namespace Sys2Proof.Machine

/-! ### Classification (R39 to R45) -/

/-- R39, R50: the classifier is free to take an entry: IDLE, no freeze raised, and the journal state not HALTED. -/
def State.mayTake (s : State) : Bool :=
  s.pwq.classifier == .idle && !s.ctl.freeze && s.ctl.journal != .halted

/-- R39: the entry at a position is discarded with a TABLE_DISCARD fault. -/
def State.takeDiscard (s : State) (i : Nat) (e : Entry) : State :=
  ((s.depart i).bump .writesDiscarded).report (s.tableDiscardReport e)

/-- R40: the entry at a position is elided as a null write. -/
def State.takeElide (s : State) (i : Nat) : State := (s.depart i).bump .writesElided

/-- R41, R42: the entry at a position becomes READY with no record sequence. -/
def State.takeReady (s : State) (i : Nat) (e : Entry) : State :=
  s.withEntries (s.pwq.entries.set i { e with stage := .ready, classEpoch := some s.ctl.epochInEffect })

/-- R43, R45, R90: the record path: the reservation check, and then the old-data read is requested; or the attempt is
abandoned, with a report when the journal is full. -/
def State.takeRecord (s : State) (i : Nat) (e : Entry) (region touch : Nat) (elide : Bool) : State :=
  if s.capacity ≤ s.writer.nextSeq then s.fullReport
  else if s.writer.canAccept then
    (s.withEntries (s.pwq.entries.set i
      { e with stage := .classifying, classEpoch := some s.ctl.epochInEffect, region := some region })).withClassifier
        (.reading ⟨e.granule, e.master, region, touch, elide⟩)
  else s

/-- R39: the classifier takes the entry at a position. -/
def State.takeEntry (s : State) (i : Nat) (e : Entry) : State :=
  match s.classOf e.granule with
  | .anchor => s.takeDiscard i e
  | .recordArea => s.takeDiscard i e
  | .frozen _ => s.takeDiscard i e
  | .unprotected => if e.isNull then s.takeElide i else s.takeReady i e
  | .journaled region touch elide =>
    if e.isNull then s.takeElide i
    else if s.maps.touched touch then s.takeReady i e
    else s.takeRecord i e region touch elide

/-- R39, R50: one attempt of the classifier on the oldest UNCLASSIFIED entry. -/
def State.classifierTake (s : State) : State :=
  if s.mayTake then
    match s.pwq.firstIn .unclassified with
    | none => s
    | some i =>
      match s.pwq.entries[i]? with
      | none => s
      | some e => (s.takeEntry i e).quietTest
  else s

/-- CLASSIFIER_TAKE (R39 to R43, R45, R50, R90). It is no happening while a stall holds (assumption 2). -/
def execClassifierTake (s : State) : Host.Outcome State Fault Refusal := s.running s.classifierTake

/-! ### The old-data read (R46 to R48, R51, R136) -/

/-- R47, R71: the record of a classification. -/
def State.recordFor (s : State) (c : Classification) (old : List Word) : JournalRecord where
  epoch := s.ctl.epochInEffect
  seq := s.writer.nextSeq
  granule := c.granule
  region := c.region
  master := c.master
  old := old

/-- R47, R63, R71: the record enters a bank, its touch bit is set, the entry is WAITING and the classifier IDLE. -/
def State.buildRecord (s : State) (c : Classification) (i : Nat) (e : Entry) (old : List Word) : State :=
  let t := (s.withWriter (s.writer.placed (s.recordFor c old))).bump .recordsCreated
  ((t.withMaps (t.maps.setTouch c.touch)).withEntries
    (t.pwq.entries.set i { e with stage := .waiting, recordSeq := some s.writer.nextSeq })).withClassifier .idle

/-- R46, R47: the old-data read of the entry at a position returns OKAY with the old words. -/
def State.oldDataOkay (s : State) (c : Classification) (i : Nat) (e : Entry) (old : List Word) : State :=
  if c.elide && e.unchangedBy old then ((s.depart i).bump .writesElided).withClassifier .idle
  else s.buildRecord c i e old

/-- R48: the report of a failed old-data read. -/
def State.oldReadReport (s : State) (c : Classification) : FaultReport :=
  ⟨.oldRead, .classifier, some c.granule, some c.master, some s.ctl.epochInEffect, some s.writer.nextSeq⟩

/-- R46 to R48, R136: the answer to the old-data read of a classification. The entry may have been discarded by RESOLVE
while the read was in flight; the answer is then dropped, but for the report of an ERROR. -/
def State.oldDataAnswered (s : State) (c : Classification) (old : Option (List Word)) : State :=
  match s.pwq.firstIn .classifying with
  | none =>
    match old with
    | some _ => s.withClassifier .idle
    | none => (s.withClassifier .idle).report (s.oldReadReport c)
  | some i =>
    match s.pwq.entries[i]?, old with
    | some e, some words => s.oldDataOkay c i e words
    | _, _ => (s.withClassifier (.held c)).report (s.oldReadReport c)

/-- The words of an answer, `none` for ERROR. -/
def State.answerWords (s : State) (a : Access) : ReadAnswer → Option (List Word)
  | .okay seen => some (s.wordsAnswered a seen)
  | .error => none

/-- The answer to an old-data read, with the tests that follow. -/
def State.oldDataReadDone (s : State) (answer : ReadAnswer) : State :=
  match s.inFlightFor .classifier, s.pwq.classifier with
  | some a, .reading c =>
    (((s.answered answer.isError).oldDataAnswered c (s.answerWords a answer)).readItemDone
      (answer.isError == false)).settle
  | _, _ => s

/-- OLD_DATA_READ_DONE (R46 to R48, R51, R108, R120, R136, R165, R171). -/
def execOldDataReadDone (answer : ReadAnswer) (s : State) : Host.Outcome State Fault Refusal :=
  s.running (s.oldDataReadDone answer)

/-! ### The coalesce timer (R79) -/

/-- COALESCE_TIMER_EXPIRY (R79). It is no happening while the timer is STOPPED. -/
def execCoalesceTimerExpiry (s : State) : Host.Outcome State Fault Refusal :=
  s.running (if s.writer.coalesceTimer.isSome then s.coalesceExpired else s)

/-! ### Record writes (R82 to R84) -/

/-- R82, R83: a record of the FLUSHING bank is durable and leaves the bank, which becomes EMPTY with its last. -/
def JournalWriter.recordDurable (w : JournalWriter) (b : Bool) (rest : List JournalRecord) : JournalWriter :=
  { w.setBank b (if rest = [] then Bank.emptied else ⟨.flushing, rest⟩) with durable := w.durable + 1 }

/-- R84: the report of a failed record write. -/
def State.flushReport (s : State) (r : JournalRecord) : FaultReport :=
  ⟨.flush, .journalWriter, some r.granule, some r.master, some s.ctl.epochInEffect, some r.seq⟩

/-- R82, R83, R86: a record write returns OKAY. -/
def State.recordOkay (s : State) (b : Bool) (rest : List JournalRecord) : State :=
  let t := (s.withWriter (s.writer.recordDurable b rest)).warnTest
  if rest = [] then t.flushItemDone true else t

/-- R84, R86: a record write returns ERROR. -/
def State.recordError (s : State) (b : Bool) (r : JournalRecord) : State :=
  ((s.withWriter (s.writer.setBank b { s.writer.bank b with state := .flushFailed })).report
    (s.flushReport r)).flushItemDone false

/-- The answer to a record write, with the tests that follow. -/
def State.recordWriteDone (s : State) (answer : WriteAnswer) : State :=
  match s.inFlightFor .journalWriter, s.writer.bankIn .flushing with
  | some a, some b =>
    match (s.writer.bank b).records with
    | r :: rest =>
      let t := (s.withMem (answeredMem s.mem a answer)).answered answer.isError
      (if answer.isError then t.recordError b r else t.recordOkay b rest).settle
    | [] => s
  | _, _ => s

/-- RECORD_WRITE_DONE (R82 to R84, R87, R91, R120, R165, R171). -/
def execRecordWriteDone (answer : WriteAnswer) (s : State) : Host.Outcome State Fault Refusal :=
  s.running (s.recordWriteDone answer)

/-! ### Commit writes (R54, R55) -/

/-- R55: the report of a failed commit write. -/
def dataWriteReport (e : Entry) : FaultReport :=
  ⟨.dataWrite, .commitStage, some e.granule, some e.master, e.classEpoch, e.recordSeq⟩

/-- The answer to a commit write, with the tests that follow. -/
def State.commitWriteDone (s : State) (answer : WriteAnswer) : State :=
  match s.inFlightFor .commitStage, s.pwq.entries with
  | some a, e :: _ =>
    if e.stage = .committing then
      let t := ((s.withMem (answeredMem s.mem a answer)).answered answer.isError).depart 0
      (if answer.isError then t.report (dataWriteReport e) else t.bump .writesPerformed).settle
    else s
  | _, _ => s

/-- COMMIT_WRITE_DONE (R37, R53 to R55, R109, R134 to R136, R149, R165, R177). -/
def execCommitWriteDone (answer : WriteAnswer) (s : State) : Host.Outcome State Fault Refusal :=
  s.running (s.commitWriteDone answer)

end Sys2Proof.Machine
end

