-- ==== Sys2Proof/Machine/EpochSteps.lean ====
section
/-! DEFINITION. SWEEP_END and the answers to the epoch controller's accesses: ANCHOR_READ_DONE, ANCHOR_WRITE_DONE,
ANCHOR_READ_BACK_DONE, CLEAR_WRITE_DONE, SCAN_READ_DONE, WALK_READ_DONE and WALK_WRITE_DONE. -/

namespace Sys2Proof.Machine

/-- The epoch controller's access replaced, in the same phase. -/
def State.withWork (s : State) (w : EpochWork) : State := s.withPhase s.ctl.phase w

/-! ### Sweeps (R61, R65, R68, R123) -/

/-- R68, R123: MAP_SWEEP ends when both maps are swept, and ANCHOR_READ is entered with the read of copy A. -/
def State.mapSweepTest (s : State) : State :=
  if s.maps.active.condition = .live ∧ s.maps.inactive.condition = .clean then
    s.withPhase .anchorRead (.anchorRead .a none none)
  else s

/-- R61, R65, R68: the phase that waits for the end of a sweep is tested. -/
def State.sweepFollows (s : State) : State :=
  match s.ctl.phase with
  | .mapSweep => s.mapSweepTest
  | .sweepWait => s.sweepWaitTest
  | _ => s

/-- SWEEP_END (R61, R65, R68). It is no happening while the sweep engine is idle. -/
def execSweepEnd (s : State) : Host.Outcome State Fault Refusal :=
  s.running (if s.maps.sweeping.isSome then (s.withMaps s.maps.sweepEnded).sweepFollows else s)

/-! ### Anchor reads of start-up (R124) -/

/-- R124: a copy has been read, valid or not; copy B follows copy A, and the selection copy B. -/
def State.copyRead (s : State) (copy : Copy) (copyA found : Option Anchor) : State :=
  match copy with
  | .a => s.withWork (.anchorRead .b none found)
  | .b => s.selectAnchor (newestOf copyA found)

/-- R124: the answer to one half of a copy; an ERROR makes the copy invalid. -/
def State.anchorReadAnswered (s : State) (copy : Copy) (first : Option (List Word)) (copyA : Option Anchor)
    (words : Option (List Word)) : State :=
  match words, first with
  | none, _ => s.copyRead copy copyA none
  | some ws, none => s.withWork (.anchorRead copy (some ws) copyA)
  | some ws, some ws0 => s.copyRead copy copyA (anchorOfWords (ws0 ++ ws))

/-- The answer to an anchor read of start-up. -/
def State.anchorReadDone (s : State) (answer : ReadAnswer) : State :=
  match s.inFlightFor .epochController, s.ctl.work with
  | some a, .anchorRead copy first copyA =>
    (s.answered answer.isError).anchorReadAnswered copy first copyA (s.answerWords a answer)
  | _, _ => s

/-- ANCHOR_READ_DONE (R96, R97, R124 to R126, R132, R165). -/
def execAnchorReadDone (answer : ReadAnswer) (s : State) : Host.Outcome State Fault Refusal :=
  s.running (s.anchorReadDone answer)

/-! ### Anchor writes (R107) -/

/-- R107: the answer to one half of an anchor write. -/
def State.anchorWriteAnswered (s : State) (second : Bool) (a : Anchor) (isError : Bool) : State :=
  match second, isError with
  | false, false => s.withWork (.anchorWrite true a)
  | true, false => s.anchorAcknowledged a
  | false, true => s.anchorWriteFailed a
  | true, true => s.withWork (.readBack none a)

/-- The answer to an anchor write, with PFQUIET's test. -/
def State.anchorWriteDone (s : State) (answer : WriteAnswer) : State :=
  match s.inFlightFor .epochController, s.ctl.work with
  | some acc, .anchorWrite second a =>
    (((s.withMem (answeredMem s.mem acc answer)).answered answer.isError).anchorWriteAnswered second a
      answer.isError).quietTest
  | _, _ => s

/-- ANCHOR_WRITE_DONE (R12, R52, R64, R106, R107, R111 to R113, R115 to R117, R127, R130, R140 to R142, R157, R188). -/
def execAnchorWriteDone (answer : WriteAnswer) (s : State) : Host.Outcome State Fault Refusal :=
  s.running (s.anchorWriteDone answer)

/-- R107: the copy read back is valid and carries the generation just written. -/
def readBackWhole (a : Anchor) (ws : List Word) : Bool :=
  match anchorOfWords ws with
  | some x => x.generation == a.generation
  | none => false

/-- R107: the answer to one half of a read-back; an ERROR begins a new read-back. -/
def State.readBackAnswered (s : State) (first : Option (List Word)) (a : Anchor) (words : Option (List Word)) : State :=
  match words, first with
  | none, _ => s.withWork (.readBack none a)
  | some ws, none => s.withWork (.readBack (some ws) a)
  | some ws, some ws0 => if readBackWhole a (ws0 ++ ws) then s.anchorAcknowledged a else s.anchorWriteFailed a

/-- The answer to a read-back, with PFQUIET's test. -/
def State.anchorReadBackDone (s : State) (answer : ReadAnswer) : State :=
  match s.inFlightFor .epochController, s.ctl.work with
  | some acc, .readBack first a =>
    ((s.answered answer.isError).readBackAnswered first a (s.answerWords acc answer)).quietTest
  | _, _ => s

/-- ANCHOR_READ_BACK_DONE (R96, R107, and what an acknowledged or failed anchor write brings). -/
def execAnchorReadBackDone (answer : ReadAnswer) (s : State) : Host.Outcome State Fault Refusal :=
  s.running (s.anchorReadBackDone answer)

/-! ### The clear cycle's writes (R114) -/

/-- R114: the number of accesses of a clear. -/
def State.clearAccesses (s : State) : Nat := (s.ctl.geometry.getD ⟨0, 0⟩).size / 64

/-- R114: the report of a failed clear access. -/
def clearWriteReport (a : Access) : FaultReport :=
  ⟨.clearWrite, .epochController, some (granuleOf a.addr), none, none, none⟩

/-- R114: the answer to clear access `k`. -/
def State.clearAnswered (s : State) (acc : Access) (k : Nat) (isError : Bool) : State :=
  if isError then (s.report (clearWriteReport acc)).cycleFailed
  else if k + 1 < s.clearAccesses then s.withWork (.clearing (k + 1))
  else s.enterAnchor1

/-- The answer to a clear access, with PFQUIET's test. -/
def State.clearWriteDone (s : State) (answer : WriteAnswer) : State :=
  match s.inFlightFor .epochController, s.ctl.work with
  | some acc, .clearing k =>
    (((s.withMem (answeredMem s.mem acc answer)).answered answer.isError).clearAnswered acc k
      answer.isError).quietTest
  | _, _ => s

/-- CLEAR_WRITE_DONE (R114 to R116, R127, R130, R165). -/
def execClearWriteDone (answer : WriteAnswer) (s : State) : Host.Outcome State Fault Refusal :=
  s.running (s.clearWriteDone answer)

/-! ### The scan (R128) -/

/-- R128: the answer to the scan read of slot `i`. -/
def State.scanAnswered (s : State) (i : Nat) (words : Option (List Word)) : State :=
  match words with
  | none => s.scanFailed i
  | some ws =>
    if verdictOf ws s.ctl.epochInEffect i = .valid then
      if i + 1 < s.capacity then s.withWork (.scanning (i + 1)) else s.scanCompleted (i + 1)
    else s.scanCompleted i

/-- The answer to a scan read, with PFQUIET's test. -/
def State.scanReadDone (s : State) (answer : ReadAnswer) : State :=
  match s.inFlightFor .epochController, s.ctl.work with
  | some acc, .scanning i =>
    ((s.answered answer.isError).scanAnswered i (s.answerWords acc answer)).quietTest
  | _, _ => s

/-- SCAN_READ_DONE (R89, R98, R128 to R130, R132, R137, R142, R165). -/
def execScanReadDone (answer : ReadAnswer) (s : State) : Host.Outcome State Fault Refusal :=
  s.running (s.scanReadDone answer)

/-! ### The walk (R138, R139) -/

/-- R139: the report of a failure of the walk at slot `i` without a granule. -/
def State.walkReport (s : State) (kind : FaultKind) (i : Nat) : FaultReport :=
  ⟨kind, .epochController, none, none, some s.ctl.epochInEffect, some i⟩

/-- R138: the restoring write a valid record calls for. -/
def restoreOf (i : Nat) (ws : List Word) : EpochWork :=
  .walkWriting i (originGranule (ws.getD 2 0)) (originMaster (ws.getD 2 0)) (ws.drop 4)

/-- R138, R139: the answer to the walk read of slot `i`. -/
def State.walkReadAnswered (s : State) (i : Nat) (words : Option (List Word)) : State :=
  match words with
  | none => s.walkFailed (s.walkReport .walkRead i)
  | some ws =>
    if verdictOf ws s.ctl.epochInEffect i = .valid then s.withWork (restoreOf i ws)
    else s.walkFailed (s.walkReport .recordCheck i)

/-- The answer to a walk read, with PFQUIET's test. -/
def State.walkReadDone (s : State) (answer : ReadAnswer) : State :=
  match s.inFlightFor .epochController, s.ctl.work with
  | some acc, .walkReading i =>
    ((s.answered answer.isError).walkReadAnswered i (s.answerWords acc answer)).quietTest
  | _, _ => s

/-- WALK_READ_DONE (R66, R98, R138, R139, R142, R165). -/
def execWalkReadDone (answer : ReadAnswer) (s : State) : Host.Outcome State Fault Refusal :=
  s.running (s.walkReadDone answer)

/-- R139: the report of a failed restoring write. -/
def State.walkWriteReport (s : State) (i granule : Nat) (master : BitVec 3) : FaultReport :=
  ⟨.walkWrite, .epochController, some granule, some master, some s.ctl.epochInEffect, some i⟩

/-- R138: walk remaining falls by one, and the next lower slot is read, or WALK ends. -/
def State.walkRestored (s : State) (i : Nat) : State :=
  let t := s.withWalkRemaining (s.ctl.walkRemaining - 1)
  if s.ctl.walkRemaining - 1 = 0 then t.enterSweepWait else t.withWork (.walkReading (i - 1))

/-- The answer to a restoring write, with PFQUIET's test. -/
def State.walkWriteDone (s : State) (answer : WriteAnswer) : State :=
  match s.inFlightFor .epochController, s.ctl.work with
  | some acc, .walkWriting i granule master _ =>
    let t := (s.withMem (answeredMem s.mem acc answer)).answered answer.isError
    (if answer.isError then t.walkFailed (t.walkWriteReport i granule master) else t.walkRestored i).quietTest
  | _, _ => s

/-- WALK_WRITE_DONE (R65, R66, R138 to R140, R142, R165). -/
def execWalkWriteDone (answer : WriteAnswer) (s : State) : Host.Outcome State Fault Refusal :=
  s.running (s.walkWriteDone answer)

end Sys2Proof.Machine
end

