-- ==== Sys2Proof/Machine/Lines.lean ====
section
/-! DEFINITION. RESET_ASSERTED, RESET_RELEASED, PFAIL_ASSERTED and PFAIL_DEASSERTED. -/

namespace Sys2Proof.Machine

/-- R167: memory when RESET abandons the access in flight. -/
def State.abandonedMem (s : State) (left : List Byte) : Mem :=
  match s.port with
  | none => s.mem
  | some f => leftBehind s.mem f.access left

/-- RESET_ASSERTED (R5, R8, R33, R58, R68, R72, R93, R102, R133, R160, R163, R167, R168, R171, R175, R190): every block
returns to its RESET state, the access in flight is abandoned, memory is otherwise kept, and the hold follows PFAIL. -/
def execResetAsserted (left : List Byte) (s : State) : Host.Outcome State Fault Refusal :=
  .next { State.reset with
    faults := { State.reset.faults with hold := s.faults.hold }
    mem := s.abandonedMem left
    pending := s.pending }

/-- RESET_RELEASED (R68, R123, R175, R177): start-up begins in MAP_SWEEP, with the sweep of map 0; PFQUIET rises when
PFAIL is asserted. It is no happening when RESET is not asserted. -/
def execResetReleased (s : State) : Host.Outcome State Fault Refusal :=
  .next (if s.inReset then ({ s with inReset := false }.withPhase .mapSweep .rest).quietTest else s)

/-- PFAIL_ASSERTED (R175, R176, R177): the hold is set and its drain demand seals the FILLING bank when it may. -/
def execPfailAsserted (s : State) : Host.Outcome State Fault Refusal :=
  .next (if s.faults.hold then s else ({ s with faults := { s.faults with hold := true } }.sealTest).quietTest)

/-- PFAIL_DEASSERTED (R175, R176, R177): the hold is cleared and PFQUIET deasserted. -/
def execPfailDeasserted (s : State) : Host.Outcome State Fault Refusal :=
  .next { s with faults := { s.faults with hold := false, pfquiet := false } }

end Sys2Proof.Machine
end

