-- ==== Sys2Proof/Machine/Port.lean ====
section
/-! DEFINITION. MEMORY_GRANT: the requests that stand while the memory port is IDLE (R162) and the arbiter (R163). A
requester's standing request is read from the state of its owner (assumption 13). -/

namespace Sys2Proof.Machine

/-- R162: offset of a copy's second half. -/
def halfOffset (second : Bool) : Nat := if second then 64 else 0

/-- R5: the record area base in effect. -/
def State.areaBase (s : State) : Nat := (s.ctl.geometry.getD ⟨0, 0⟩).base

/-- R162: the read of a record slot. -/
def State.slotAccess (s : State) (slot : Nat) : Access := .read (s.areaBase + Config.slotBytes * slot) 12

/-- R107, R114, R124, R128, R138, R162: the epoch controller's request. -/
def State.epochRequest (s : State) : Option Access :=
  match s.ctl.work with
  | .rest => none
  | .anchorRead copy first _ => some (.read (copy.base + halfOffset first.isSome) 16)
  | .anchorWrite second a =>
      some (.write ((anchorTarget s.ctl.newest).base + halfOffset second) (allLanes (a.half second)))
  | .readBack first _ => some (.read ((anchorTarget s.ctl.newest).base + halfOffset first.isSome) 16)
  | .clearing k => some (.write (s.areaBase + 64 * k) (allLanes (List.replicate 16 0)))
  | .scanning i => some (s.slotAccess i)
  | .walkReading i => some (s.slotAccess i)
  | .walkWriting _ g _ old => some (.write (32 * g) (allLanes old))

/-- R81, R87: the journal writer's request, the lowest-sequence record of the FLUSHING bank; none in RESOLVE. -/
def State.journalRequest (s : State) : Option Access :=
  if s.ctl.resolving then none
  else
    match s.writer.bankIn .flushing with
    | none => none
    | some b =>
      match (s.writer.bank b).records with
      | [] => none
      | r :: _ => some (.write (s.areaBase + Config.slotBytes * r.seq) (allLanes r.words))

/-- R45: the classifier's request, the old-data read of a READING classification. -/
def State.classifierRequest (s : State) : Option Access :=
  match s.pwq.classifier with
  | .reading c => some (.read (32 * c.granule) 8)
  | _ => none

/-- R53, R56: the commit stage's request, the write of a READY head; none in QUIESCE. -/
def State.commitRequest (s : State) : Option Access :=
  match s.pwq.entries with
  | [] => none
  | e :: _ => if e.stage = .ready ∧ s.ctl.quiescing = false then some e.access else none

/-- R151: a slot's request. -/
def Slot.request : Slot → Option Access
  | .fetchPending k => some (.read k.addr.toNat k.len)
  | _ => none

/-- R162: the request a requester has standing while the port is IDLE. -/
def State.requestOf (s : State) : Requester → Option Access
  | .epochController => s.epochRequest
  | .journalWriter => s.journalRequest
  | .classifier => s.classifierRequest
  | .commitStage => s.commitRequest
  | .readSlot i => s.reads.slots[i].request
  | .servicePort => s.service.peekRead.map fun p => .read p.addr 12

/-- R163: the arbiter's order. -/
def arbiterOrder : List Requester :=
  [.epochController, .journalWriter, .classifier, .commitStage, .readSlot 0, .readSlot 1, .readSlot 2, .readSlot 3,
    .servicePort]

/-- R163: the request chosen, the first standing one in the arbiter's order. -/
def State.chosen (s : State) : Option InFlight :=
  arbiterOrder.findSome? fun r => (s.requestOf r).map (InFlight.mk r)

/-- R53: the head entry when its access is granted. -/
def headCommitting : List Entry → List Entry
  | [] => []
  | e :: rest => { e with stage := .committing } :: rest

/-- R151: a slot when its fetch is granted. -/
def Slot.granted : Slot → Slot
  | .fetchPending k => .fetching k false
  | sl => sl

/-- R53, R151, R163: what a grant does at its owner. -/
def State.grantedTo (s : State) : Requester → State
  | .commitStage => s.withEntries (headCommitting s.pwq.entries)
  | .readSlot i => s.withReads (s.reads.setSlot i s.reads.slots[i].granted)
  | _ => s

/-- MEMORY_GRANT (R163). It is no happening while the port is BUSY or no request stands. -/
def execMemoryGrant (s : State) : Host.Outcome State Fault Refusal :=
  if s.inReset then .next s
  else
    match s.port, s.chosen with
    | none, some f =>
      if f.access.inside then .next ((s.grantedTo f.owner).withPort (some f)) else .fault .outsideAddressSpace
    | _, _ => .next s

end Sys2Proof.Machine
end

