-- ==== Sys2Proof/Machine/ReadLane.lean ====
section
/-! DEFINITION. FETCH_DONE and SLOT_DISCARD_TIMER_EXPIRY (09_delayed_reads.md). -/

namespace Sys2Proof.Machine

/-- R152, R153: a FETCHING slot when its fetch is answered, with the words of an OKAY. -/
def Slot.fetched (q : WriteQueue) (discardTime : Nat) (words : Option (List Word)) : Slot → Slot
  | .fetching k stale =>
    match words with
    | none => .failed k discardTime
    | some ws => if stale then Slot.allocated q k else .ready k ws discardTime
  | sl => sl

/-- R153: the report of a failed fetch. -/
def fetchReport (i : Fin 4) (k : SlotKey) : FaultReport :=
  ⟨.fetch, .readSlots, some k.granule, some k.master, none, some i.val⟩

/-- R152, R153, R156, R157: the answer to the fetch of slot `i`; the answer to a slot that has been freed meanwhile, and
so is not FETCHING, is dropped. -/
def State.fetchAnswered (s : State) (i : Fin 4) (words : Option (List Word)) : State :=
  match s.reads.slots[i] with
  | .fetching k _ =>
    let t := s.withReads (s.reads.setSlot i (s.reads.slots[i].fetched s.pwq s.reads.discardTime words))
    if words.isNone then t.report (fetchReport i k) else t
  | _ => s

/-- The answer to the fetch in flight. -/
def State.fetchDone (s : State) (answer : ReadAnswer) : State :=
  match s.port with
  | some ⟨.readSlot i, a⟩ => (s.answered answer.isError).fetchAnswered i (s.answerWords a answer)
  | _ => s

/-- FETCH_DONE (R152, R153, R155 to R157, R165). -/
def execFetchDone (answer : ReadAnswer) (s : State) : Host.Outcome State Fault Refusal :=
  s.running (s.fetchDone answer)

/-- R155: whether a slot's discard timer runs. -/
def Slot.timerRuns : Slot → Bool
  | .ready _ _ _ => true
  | .failed _ _ => true
  | _ => false

/-- SLOT_DISCARD_TIMER_EXPIRY (R155). It is no happening while the slot's timer is stopped. -/
def execSlotDiscardTimerExpiry (slot : Fin 4) (s : State) : Host.Outcome State Fault Refusal :=
  s.running
    (if s.reads.slots[slot].timerRuns then (s.withReads (s.reads.setSlot slot .free)).bump .slotsDiscarded else s)

end Sys2Proof.Machine
end

