-- ==== Sys2Proof/Machine/Payloads.lean ====
section
/-! DEFINITION. The payloads and the response frame of the service port as bytes (R95, R99 to R101). -/

namespace Sys2Proof.Machine

/-- R99: the response frame after the type byte: tag, result, payload length, payload and frame check code. -/
def Response.frame (r : Response) : List Byte :=
  withFrameCheck (r.tag :: r.result.code :: byteOf r.payload.length :: r.payload)

/-- R101: one flag as a bit of a byte. -/
def flagBit (place : Nat) (set : Bool) : Byte := if set then byteOf (2 ^ place) else 0

/-- R101, offset 1: the flags. -/
def State.statusFlags (s : State) : Byte :=
  flagBit 0 s.ctl.clearPending ||| flagBit 1 s.faults.hold ||| flagBit 2 s.ctl.geometry.isSome |||
    flagBit 3 s.ctl.countUnknown

/-- R101, offset 7: the maps. -/
def State.statusMaps (s : State) : Byte :=
  flagBit 0 s.maps.activeIndex ||| flagBit 1 (s.maps.active.condition == .sweeping) |||
    byteOf (4 * s.maps.inactive.condition.inactiveCode)

/-- R101, offsets 4, 5 and 8: the last-operation record; all 0 while it is empty. -/
def LastOp.kindByte (l : Option LastOp) : Byte := byteOf (OpKind.code (l.map LastOp.kind))

/-- R101, offset 5: the outcome, 0 for none. -/
def LastOp.outcomeByte : Option LastOp → Byte
  | none => 0
  | some l => byteOf l.outcome.code

/-- R101, offset 8: the epoch after. -/
def LastOp.epochField : Option LastOp → Word
  | none => 0
  | some l => l.epochAfter

/-- R101: offsets 0 to 7 of the status payload. -/
def State.statusHead (s : State) : List Byte :=
  [byteOf s.ctl.journal.code, s.statusFlags, byteOf (OpKind.code s.ctl.op), byteOf s.ctl.phase.code,
    LastOp.kindByte s.ctl.lastOp, LastOp.outcomeByte s.ctl.lastOp, byteOf (HaltCause.code s.faults.haltedCause),
    s.statusMaps]

/-- R101: the ten numbers at offsets 8 to 47. -/
def State.statusNumbers (s : State) : List Word :=
  [LastOp.epochField s.ctl.lastOp, s.ctl.epochInEffect, s.ctl.generation,
    wordOfNat ((s.ctl.geometry.map Geometry.base).getD 0), wordOfNat ((s.ctl.geometry.map Geometry.size).getD 0),
    wordOfNat s.capacity, wordOfNat s.writer.nextSeq, wordOfNat s.writer.durable, wordOfNat s.warnLevel,
    wordOfNat s.ctl.walkRemaining]

/-- R101: offsets 48 to 59. -/
def State.statusTail (s : State) : List Byte :=
  [byteOf s.pwq.entries.length, byteOf s.pwq.unclassifiedCount,
    byteOf s.writer.bank0.state.code, byteOf s.writer.bank0.records.length,
    byteOf s.writer.bank1.state.code, byteOf s.writer.bank1.records.length,
    byteOf (s.reads.slots[0]).code, byteOf (s.reads.slots[1]).code,
    byteOf (s.reads.slots[2]).code, byteOf (s.reads.slots[3]).code,
    s.service.causes, s.service.mask]

/-- R101: the 60 bytes of the status payload. -/
def State.statusPayload (s : State) : List Byte := s.statusHead ++ wordsBytes s.statusNumbers ++ s.statusTail

/-- R101, offset 2 of the fault payload: which fields the record holds. -/
def FaultReport.presence (r : FaultReport) : Byte :=
  flagBit 0 r.granule.isSome ||| flagBit 1 r.master.isSome ||| flagBit 2 r.epoch.isSome |||
    flagBit 3 r.slotOrSeq.isSome

/-- R101: offsets 0 to 15 of the fault payload for a record that holds a fault. -/
def FaultReport.bytes (r : FaultReport) : List Byte :=
  [byteOf r.kind.code, byteOf r.source.code, r.presence, (r.master.getD 0).setWidth 8] ++
    wordBytes (wordOfNat (r.granule.getD 0)) ++ wordBytes (r.epoch.getD 0) ++
    wordBytes (wordOfNat (r.slotOrSeq.getD 0))

/-- R101: the 18 bytes of the fault payload; an empty record reads as 0. -/
def State.faultPayload (s : State) : List Byte :=
  match s.faults.record with
  | none => List.replicate 18 0
  | some r => r.bytes ++ halfBytes (BitVec.ofNat 16 s.faults.laterFaults)

/-- R100, R184: the 64 bytes of GET_COUNTERS. -/
def State.countersPayload (s : State) : List Byte := wordsBytes s.counters.toList

/-- R95, R100: a region entry in its stored layout, fills 0. -/
def RegionEntry.bytes (e : RegionEntry) : List Byte := wordsBytes e.words

end Sys2Proof.Machine
end

