-- ==== Sys2Proof/Machine/Service.lean ====
section
/-! DEFINITION. The fifteen service commands (R9, R10, R105, R170, R183 to R189): what each does, and the request
period that carries it. Each row of the table is the end of a request period whose frame is well formed and carries the
command; REQUEST_FRAME (ServicePort.lean) is the end of any period. -/

namespace Sys2Proof.Machine

/-- What the rule of a command gives: the state after it, the result, and the payload of an OK. -/
structure Reply where
  state : State
  result : Result
  payload : List Byte
  deriving DecidableEq, Repr

/-- A command answered without effect. -/
def State.refuse (s : State) (r : Result) : Reply := ⟨s, r, []⟩

/-- A command answered OK with no payload. -/
def State.done (s : State) : Reply := ⟨s, .ok, []⟩

/-! ### Readings (R184, R186) -/

/-- GET_STATUS (R184). -/
def State.getStatusRule (s : State) : Reply := ⟨s, .ok, s.statusPayload⟩

/-- GET_FAULT (R184). -/
def State.getFaultRule (s : State) : Reply := ⟨s, .ok, s.faultPayload⟩

/-- GET_COUNTERS (R184). -/
def State.getCountersRule (s : State) : Reply := ⟨s, .ok, s.countersPayload⟩

/-- R186: the copy of the table that a selector names. -/
def State.tableCopy (s : State) (copy : Byte) : Option Table :=
  if copy = 0 then some s.regions.active else if copy = 1 then some s.regions.staged else none

/-- GET_REGION (R186). -/
def State.getRegionRule (copy index : Byte) (s : State) : Reply :=
  match s.tableCopy copy with
  | none => s.refuse .badArgument
  | some t =>
    match t.toList[index.toNat]? with
    | none => s.refuse .badArgument
    | some e => ⟨s, .ok, e.bytes⟩

/-! ### Clears and tuning (R170, R184, R185, R189) -/

/-- CLEAR_FAULT (R170): the record becomes empty and the later-fault count 0. -/
def State.clearFaultRule (s : State) : Reply :=
  { s with faults := { s.faults with record := none, laterFaults := 0 } }.done

/-- CLEAR_COUNTERS (R184). -/
def State.clearCountersRule (s : State) : Reply := { s with counters := Vector.replicate 16 0 }.done

/-- CLEAR_ATTENTION (R189): every cause whose bit is set in the mask is cleared. -/
def State.clearAttentionRule (mask : Byte) (s : State) : Reply :=
  { s with service := { s.service with causes := s.service.causes &&& ~~~mask } }.done

/-- R185: a warning level in range: DEFAULT, or 1 to the capacity in effect when the geometry is known. -/
def State.warningInRange (s : State) (warning : Word) : Bool :=
  warning == 0 || (s.ctl.geometry.isSome && warning.toNat ≤ s.capacity)

/-- R185: the ranges of the five values. -/
def State.tuningInRange (s : State) (threshold : Byte) (coalesce discard : BitVec 16) (warning : Word) : Bool :=
  1 ≤ threshold.toNat && threshold.toNat ≤ 16 && coalesce.toNat ≤ 1023 && 1 ≤ discard.toNat &&
    s.warningInRange warning

/-- R91: the setting a warning value selects, 0 being DEFAULT. -/
def warningSetting (warning : Word) : Option Nat := if warning = 0 then none else some warning.toNat

/-- R185: all five values take effect together. -/
def State.tuned (s : State) (threshold : Byte) (coalesce discard : BitVec 16) (warning : Word) (mask : Byte) : State :=
  { s with
    writer := { s.writer with
      flushThreshold := threshold.toNat, coalesceTime := coalesce.toNat, warnSetting := warningSetting warning }
    reads := { s.reads with discardTime := discard.toNat }
    service := { s.service with mask := mask } }

/-- R77, R185: the seal test of a threshold that has changed. -/
def State.thresholdTest (s : State) (old : Nat) : State := if s.writer.flushThreshold = old then s else s.sealTest

/-- R91, R185: the warning test of a setting that has changed (assumption 18). -/
def State.settingTest (s : State) (old : Option Nat) : State := if s.writer.warnSetting = old then s else s.warnTest

/-- SET_TUNING (R77, R78, R91, R155, R185). -/
def State.setTuningRule (threshold : Byte) (coalesce discard : BitVec 16) (warning : Word) (mask : Byte)
    (s : State) : Reply :=
  if s.tuningInRange threshold coalesce discard warning then
    (((s.tuned threshold coalesce discard warning mask).thresholdTest s.writer.flushThreshold).settingTest
      s.writer.warnSetting).done
  else s.refuse .badArgument

/-! ### STAGE_REGION (R9, R10) -/

/-- R10, checks 3 to 6, of an entry whose mode is not OFF. -/
def State.stagePlaceable (s : State) (e : RegionEntry) : Bool :=
  1 ≤ e.length && e.length ≤ Config.touchBits && e.base + e.length ≤ Config.granules && 8 ≤ e.base &&
    !s.ctl.geometry.any fun g => e.overlapsArea g

/-- R9, R10, R100: the entry a command carries, as the staged table would take it, `none` where a check fails. -/
def State.stagedEntry (s : State) (e : StoredEntry) : Option RegionEntry :=
  match RegionMode.ofCode e.mode.toNat with
  | none => none
  | some .off => some RegionEntry.unused
  | some .journaled =>
    let r : RegionEntry := ⟨.journaled, e.base.toNat, e.length.toNat, e.elide.getLsbD 0⟩
    if s.stagePlaceable r then some r else none
  | some .frozen =>
    let r : RegionEntry := ⟨.frozen, e.base.toNat, e.length.toNat, false⟩
    if s.stagePlaceable r then some r else none

/-- STAGE_REGION (R9, R10). -/
def State.stageRegionRule (index : Byte) (e : StoredEntry) (s : State) : Reply :=
  if s.ctl.op.isSome then s.refuse .busy
  else
    match s.stagedEntry e with
    | none => s.refuse .badArgument
    | some r =>
      if h : index.toNat < 8 then
        { s with regions := { s.regions with staged := s.regions.staged.set index.toNat r h } }.done
      else s.refuse .badArgument

/-! ### The long operations (R105, R108, R117 to R119, R134) -/

/-- R105, check 4: the journal states that admit a command. -/
def State.admits (s : State) : OpKind → Bool
  | .checkpoint => s.ctl.journal == .ready
  | .adopt => s.ctl.journal == .recoveryPending || (s.ctl.journal == .recoveryFault && !s.ctl.clearPending)
  | .rollback => s.ctl.journal == .ready || s.ctl.journal == .halted || s.ctl.journal == .recoveryPending ||
      (s.ctl.journal == .recoveryFault && !s.ctl.clearPending)
  | .format => s.ctl.journal == .unformatted || s.ctl.journal == .ready ||
      (s.ctl.journal == .recoveryFault && s.ctl.clearPending)
  | .resume => s.ctl.journal == .halted

/-- R11, R105, check 6: the staged table is legal with respect to a geometry. -/
def State.stagedLegal (s : State) (g : Option Geometry) : Bool := g.any fun g => s.regions.staged.legal g

/-- R105, checks 2 to 4 (check 1 is R183's). -/
def State.opRefusal (s : State) (kind : OpKind) : Option Result :=
  if s.ctl.op.isSome then some .busy
  else if s.faults.hold then some .powerHold
  else if !s.admits kind then some .badState
  else none

/-- R105: the command is admitted: its kind is the operation in progress, with a FORMAT's arguments. -/
def State.admitted (s : State) (kind : OpKind) (args : Option Geometry) : State :=
  { s with ctl := { s.ctl with op := some kind, formatArgs := args } }

/-- R49, R134: a phase is entered that raises the freeze. -/
def State.frozenIn (s : State) (phase : Phase) : State :=
  { s with ctl := { s.ctl with phase := phase, work := .rest, freeze := true } }

/-- CHECKPOINT (R105, R108). -/
def State.checkpointRule (s : State) : Reply :=
  match s.opRefusal .checkpoint with
  | some r => s.refuse r
  | none =>
    if s.stagedLegal s.ctl.geometry then
      ⟨((s.admitted .checkpoint none).frozenIn .freeze).freezeTest, .accepted, []⟩
    else s.refuse .tableInvalid

/-- ADOPT (R105, R117). -/
def State.adoptRule (s : State) : Reply :=
  match s.opRefusal .adopt with
  | some r => s.refuse r
  | none =>
    if s.stagedLegal s.ctl.geometry then ⟨(s.admitted .adopt none).enterSweepWait, .accepted, []⟩
    else s.refuse .tableInvalid

/-- FORMAT (R105, R118). -/
def State.formatRule (base size : Word) (s : State) : Reply :=
  match s.opRefusal .format with
  | some r => s.refuse r
  | none =>
    let g : Geometry := ⟨base.toNat, size.toNat⟩
    if g.legal then
      if s.stagedLegal (some g) then
        ⟨((s.admitted .format (some g)).frozenIn .freeze).freezeTest, .accepted, []⟩
      else s.refuse .tableInvalid
    else s.refuse .badArgument

/-- ROLLBACK (R105, R134, R156). -/
def State.rollbackRule (s : State) : Reply :=
  match s.opRefusal .rollback with
  | some r => s.refuse r
  | none => ⟨(((s.admitted .rollback none).frozenIn .quiesce).freeAllSlots).quiesceTest, .accepted, []⟩

/-- R86, R119: a FLUSH_FAILED bank becomes FLUSHING again, as an item of the RESUME. -/
def State.resumeFlushes (s : State) : State :=
  match s.writer.bankIn .flushFailed with
  | none => s
  | some b =>
    { s with
      writer := s.writer.setBank b { s.writer.bank b with state := .flushing }
      ctl := { s.ctl with resumeFlush := .outstanding } }

/-- R48, R119: a HELD classifier reads again, and a READING one is waited for, as an item of the RESUME. -/
def State.resumeReads (s : State) : State :=
  match s.pwq.classifier with
  | .idle => s
  | .reading _ => { s with ctl := { s.ctl with resumeRead := .outstanding } }
  | .held c => { s.withClassifier (.reading c) with ctl := { s.ctl with resumeRead := .outstanding } }

/-- RESUME (R105, R119). -/
def State.resumeRule (s : State) : Reply :=
  match s.opRefusal .resume with
  | some r => s.refuse r
  | none =>
    ⟨(((s.admitted .resume none).withPhase .reissue .rest).resumeFlushes.resumeReads).resumeTest, .accepted, []⟩

/-! ### PEEK_RECORD (R187) -/

/-- R187: a peek read is requested, at once or after those accepted before it. -/
def ServicePort.withPeek (p : ServicePort) (k : Peek) : ServicePort :=
  if p.peekRead.isSome then { p with peekWaiting := p.peekWaiting ++ [k] } else { p with peekRead := some k }

/-- PEEK_RECORD (R187). -/
def State.peekRecordRule (slot : Word) (s : State) : Reply :=
  if s.ctl.journal = .unformatted then s.refuse .badState
  else if s.capacity ≤ slot.toNat then s.refuse .badArgument
  else
    ⟨{ s with service := s.service.withPeek ⟨slot.toNat, s.areaBase + Config.slotBytes * slot.toNat⟩ }, .pending, []⟩

/-! ### Execution (R181, R183) -/

/-- R183: the commands executed in STARTING. -/
def inStart : ServiceCommand → Bool
  | .getStatus => true
  | .getFault => true
  | .getCounters => true
  | _ => false

/-- R183: the rule that decides a command. -/
def State.ruleOf (s : State) : ServiceCommand → Reply
  | .getStatus => s.getStatusRule
  | .getFault => s.getFaultRule
  | .clearFault => s.clearFaultRule
  | .getCounters => s.getCountersRule
  | .clearCounters => s.clearCountersRule
  | .setTuning threshold coalesce discard warning mask => s.setTuningRule threshold coalesce discard warning mask
  | .stageRegion index entry => s.stageRegionRule index entry
  | .getRegion copy index => s.getRegionRule copy index
  | .format base size => s.formatRule base size
  | .checkpoint => s.checkpointRule
  | .adopt => s.adoptRule
  | .rollback => s.rollbackRule
  | .resume => s.resumeRule
  | .peekRecord slot => s.peekRecordRule slot
  | .clearAttention mask => s.clearAttentionRule mask

/-- R183: a known command is executed, or in STARTING answered BAD_STATE without effect. -/
def State.execute (s : State) (c : ServiceCommand) : Reply :=
  if s.ctl.journal = .starting ∧ inStart c = false then s.refuse .badState else s.ruleOf c

/-- R99, R181: the response buffer takes a tag, a result, and a payload when the result is OK. -/
def Reply.answer (r : Reply) (tag : Byte) : State :=
  { r.state with service := { r.state.service with
      response := ⟨tag, r.result, if r.result = .ok then r.payload else []⟩ } }

/-- R180: the bytes of a request period are collected, and zeros are shifted out throughout the period, which has
`clocks` whole bytes. -/
def State.collect (s : State) (bytes : List Byte) (clocks : Nat) : State :=
  { s with service := { s.service with
      rxFrame := bytes.take Config.receiveBytes, sdo := List.replicate clocks 0 } }

/-- R181, check 1: the request is dropped while the response is PENDING, and otherwise decided. -/
def State.unlessPending (s : State) (decided : State) : State :=
  if s.service.response.result = .pending then s.bump .serviceDropped else decided

/-- R180, R181: a request period that carries the frame of a command. -/
def State.serviceRequest (s : State) (tag : Byte) (c : ServiceCommand) : State :=
  let t := s.collect (encodeRequest tag c) (1 + (encodeRequest tag c).length)
  t.unlessPending ((t.execute c).answer tag)

/-! ### The rows -/

/-- GET_STATUS. -/
def execGetStatus (tag : Byte) (s : State) : Host.Outcome State Fault Refusal :=
  s.running (s.serviceRequest tag .getStatus)

/-- GET_FAULT. -/
def execGetFault (tag : Byte) (s : State) : Host.Outcome State Fault Refusal :=
  s.running (s.serviceRequest tag .getFault)

/-- CLEAR_FAULT. -/
def execClearFault (tag : Byte) (s : State) : Host.Outcome State Fault Refusal :=
  s.running (s.serviceRequest tag .clearFault)

/-- GET_COUNTERS. -/
def execGetCounters (tag : Byte) (s : State) : Host.Outcome State Fault Refusal :=
  s.running (s.serviceRequest tag .getCounters)

/-- CLEAR_COUNTERS. -/
def execClearCounters (tag : Byte) (s : State) : Host.Outcome State Fault Refusal :=
  s.running (s.serviceRequest tag .clearCounters)

/-- SET_TUNING. -/
def execSetTuning (tag threshold : Byte) (coalesce discard : BitVec 16) (warning : Word) (mask : Byte) (s : State) :
    Host.Outcome State Fault Refusal :=
  s.running (s.serviceRequest tag (.setTuning threshold coalesce discard warning mask))

/-- STAGE_REGION. -/
def execStageRegion (tag index : Byte) (entry : StoredEntry) (s : State) : Host.Outcome State Fault Refusal :=
  s.running (s.serviceRequest tag (.stageRegion index entry))

/-- GET_REGION. -/
def execGetRegion (tag copy index : Byte) (s : State) : Host.Outcome State Fault Refusal :=
  s.running (s.serviceRequest tag (.getRegion copy index))

/-- FORMAT. -/
def execFormat (tag : Byte) (base size : Word) (s : State) : Host.Outcome State Fault Refusal :=
  s.running (s.serviceRequest tag (.format base size))

/-- CHECKPOINT. -/
def execCheckpoint (tag : Byte) (s : State) : Host.Outcome State Fault Refusal :=
  s.running (s.serviceRequest tag .checkpoint)

/-- ADOPT. -/
def execAdopt (tag : Byte) (s : State) : Host.Outcome State Fault Refusal :=
  s.running (s.serviceRequest tag .adopt)

/-- ROLLBACK. -/
def execRollback (tag : Byte) (s : State) : Host.Outcome State Fault Refusal :=
  s.running (s.serviceRequest tag .rollback)

/-- RESUME. -/
def execResume (tag : Byte) (s : State) : Host.Outcome State Fault Refusal :=
  s.running (s.serviceRequest tag .resume)

/-- PEEK_RECORD. -/
def execPeekRecord (tag : Byte) (slot : Word) (s : State) : Host.Outcome State Fault Refusal :=
  s.running (s.serviceRequest tag (.peekRecord slot))

/-- CLEAR_ATTENTION. -/
def execClearAttention (tag mask : Byte) (s : State) : Host.Outcome State Fault Refusal :=
  s.running (s.serviceRequest tag (.clearAttention mask))

end Sys2Proof.Machine
end

