-- ==== Sys2Proof/Machine/ServicePort.lean ====
section
/-! DEFINITION. REQUEST_FRAME, RESPONSE_FETCH and PEEK_READ_DONE (R99, R180 to R182, R188). -/

namespace Sys2Proof.Machine

/-! ### Request periods (R180, R181) -/

/-- R181, checks 2 to 4: an answer that executes nothing. -/
def State.refusedFrame (s : State) (tag : Byte) (r : Result) : State := (s.refuse r).answer tag

/-- R181, checks 2 to 5: the frame is decided. -/
def State.decideFrame (s : State) : FrameVerdict → State
  | .malformed tag => s.refusedFrame tag .frameError
  | .unknown tag => s.refusedFrame tag .unknownCommand
  | .badLength tag => s.refusedFrame tag .badArgument
  | .command tag c => (s.execute c).answer tag

/-- R180, R181: the end of a request period whose bytes after the type byte are `bytes`. -/
def State.requestPeriod (s : State) (bytes : List Byte) : State :=
  let t := s.collect bytes (1 + bytes.length)
  t.unlessPending (t.decideFrame (decodeRequest t.service.rxFrame))

/-- R182: the bytes shifted out in a fetch period with `clocked` bytes after the type byte: 0x00, the response frame, and
zeros after it. -/
def State.fetchedBytes (s : State) (clocked : Nat) : List Byte :=
  0 :: (s.service.response.frame ++ List.replicate clocked 0).take clocked

/-- R182: a response fetch changes nothing; the bytes shifted out are the model's own field (assumption 14). -/
def State.responseFetch (s : State) (clocked : Nat) : State :=
  { s with service := { s.service with sdo := s.fetchedBytes clocked } }

/-- R180: an ignored period, throughout which zeros are shifted out. -/
def State.ignoredPeriod (s : State) (clocks : Nat) : State :=
  { s with service := { s.service with sdo := List.replicate clocks 0 } }

/-- R180: a chip-select period by its type byte. -/
def State.servicePeriod (s : State) : List Byte → State
  | [] => s.ignoredPeriod 0
  | type :: bytes =>
    if type = 0x01 then s.requestPeriod bytes
    else if type = 0x02 then s.responseFetch bytes.length
    else s.ignoredPeriod (1 + bytes.length)

/-- REQUEST_FRAME (R99, R180, R181, R183). -/
def execRequestFrame (period : List Byte) (s : State) : Host.Outcome State Fault Refusal :=
  s.running (s.servicePeriod period)

/-- RESPONSE_FETCH (R182). -/
def execResponseFetch (clocked : Nat) (s : State) : Host.Outcome State Fault Refusal :=
  s.running (s.responseFetch clocked)

/-! ### The answer to a peek read (R188) -/

/-- R188: the buffer is PENDING for the read answered: it is PENDING and no newer peek waits behind that read. -/
def ServicePort.awaitsRead (p : ServicePort) : Bool := p.response.result == .pending && p.peekWaiting.isEmpty

/-- R188: the response that the answer to the peek read gives. -/
def State.peekResponse (s : State) (k : Peek) : Option (List Word) → Response
  | none => { s.service.response with result := .memoryError, payload := [] }
  | some ws =>
    { s.service.response with
      result := .ok, payload := wordsBytes ws ++ [(verdictOf ws s.ctl.epochInEffect k.slot).code] }

/-- R187, R188: the answer to the peek read `k`: it becomes the response, or is dropped, and then the read of the peek
that waits longest is requested. -/
def State.peekAnswered (s : State) (k : Peek) (words : Option (List Word)) : State :=
  { s with service := { s.service with
      response := if s.service.awaitsRead then s.peekResponse k words else s.service.response
      peekRead := s.service.peekWaiting.head?
      peekWaiting := s.service.peekWaiting.tail } }

/-- The answer to the peek read in flight. -/
def State.peekReadDone (s : State) (answer : ReadAnswer) : State :=
  match s.inFlightFor .servicePort, s.service.peekRead with
  | some a, some k => (s.answered answer.isError).peekAnswered k (s.answerWords a answer)
  | _, _ => s

/-- PEEK_READ_DONE (R98, R166, R187, R188). -/
def execPeekReadDone (answer : ReadAnswer) (s : State) : Host.Outcome State Fault Refusal :=
  s.running (s.peekReadDone answer)

end Sys2Proof.Machine
end

