-- ==== Sys2Proof/Machine/Dispatch.lean ====
section
/-! DEFINITION. One arm for each command: the meaning it calls. -/

namespace Sys2Proof.Machine

def exec (i : Instr) (s : State) : Host.Outcome State Fault Refusal :=
  match i with
  | .hostRead master addr len => Sys2Proof.Machine.execHostRead master addr len s
  | .hostWrite master addr len data => Sys2Proof.Machine.execHostWrite master addr len data s
  | .resetAsserted left => Sys2Proof.Machine.execResetAsserted left s
  | .resetReleased => Sys2Proof.Machine.execResetReleased s
  | .pfailAsserted => Sys2Proof.Machine.execPfailAsserted s
  | .pfailDeasserted => Sys2Proof.Machine.execPfailDeasserted s
  | .getStatus tag => Sys2Proof.Machine.execGetStatus tag s
  | .getFault tag => Sys2Proof.Machine.execGetFault tag s
  | .clearFault tag => Sys2Proof.Machine.execClearFault tag s
  | .getCounters tag => Sys2Proof.Machine.execGetCounters tag s
  | .clearCounters tag => Sys2Proof.Machine.execClearCounters tag s
  | .setTuning tag threshold coalesce discard warning mask => Sys2Proof.Machine.execSetTuning tag threshold coalesce discard warning mask s
  | .stageRegion tag index entry => Sys2Proof.Machine.execStageRegion tag index entry s
  | .getRegion tag copy index => Sys2Proof.Machine.execGetRegion tag copy index s
  | .format tag base size => Sys2Proof.Machine.execFormat tag base size s
  | .checkpoint tag => Sys2Proof.Machine.execCheckpoint tag s
  | .adopt tag => Sys2Proof.Machine.execAdopt tag s
  | .rollback tag => Sys2Proof.Machine.execRollback tag s
  | .resume tag => Sys2Proof.Machine.execResume tag s
  | .peekRecord tag slot => Sys2Proof.Machine.execPeekRecord tag slot s
  | .clearAttention tag mask => Sys2Proof.Machine.execClearAttention tag mask s
  | .responseFetch clocked => Sys2Proof.Machine.execResponseFetch clocked s
  | .memoryGrant => Sys2Proof.Machine.execMemoryGrant s
  | .classifierTake => Sys2Proof.Machine.execClassifierTake s
  | .oldDataReadDone answer => Sys2Proof.Machine.execOldDataReadDone answer s
  | .coalesceTimerExpiry => Sys2Proof.Machine.execCoalesceTimerExpiry s
  | .recordWriteDone answer => Sys2Proof.Machine.execRecordWriteDone answer s
  | .commitWriteDone answer => Sys2Proof.Machine.execCommitWriteDone answer s
  | .fetchDone answer => Sys2Proof.Machine.execFetchDone answer s
  | .slotDiscardTimerExpiry slot => Sys2Proof.Machine.execSlotDiscardTimerExpiry slot s
  | .peekReadDone answer => Sys2Proof.Machine.execPeekReadDone answer s
  | .sweepEnd => Sys2Proof.Machine.execSweepEnd s
  | .anchorReadDone answer => Sys2Proof.Machine.execAnchorReadDone answer s
  | .anchorWriteDone answer => Sys2Proof.Machine.execAnchorWriteDone answer s
  | .anchorReadBackDone answer => Sys2Proof.Machine.execAnchorReadBackDone answer s
  | .clearWriteDone answer => Sys2Proof.Machine.execClearWriteDone answer s
  | .scanReadDone answer => Sys2Proof.Machine.execScanReadDone answer s
  | .walkReadDone answer => Sys2Proof.Machine.execWalkReadDone answer s
  | .walkWriteDone answer => Sys2Proof.Machine.execWalkWriteDone answer s
  | .requestFrame period => Sys2Proof.Machine.execRequestFrame period s

end Sys2Proof.Machine
end

