-- ==== Sys2Proof/Safety.lean ====
section
/-! DEFINITION. What a safe AJ-32 is: the invariants that every step keeps, and the few words the statements use. -/

namespace Sys2Proof.Machine

/-! ### Invariants -/

/-- The working memory is in canonical form. -/
def State.MemoryCanonical (s : State) : Prop := Mem.wf s.mem = true

/-- R34: the posted write queue holds at most 16 entries. -/
def State.QueueBounded (s : State) : Prop := s.pwq.entries.length ≤ 16

/-- R154, with its three steps: a slot that is FETCH_PENDING, FETCHING with the stale flag clear, or READY has no entry
of its granule in the posted write queue. -/
def Slot.freshFor (q : WriteQueue) : Slot → Prop
  | .fetchPending k => q.addresses k.granule = false
  | .fetching k stale => stale = false → q.addresses k.granule = false
  | .ready k _ _ => q.addresses k.granule = false
  | _ => True

/-- R154: every slot is fresh. -/
def State.SlotsFresh (s : State) : Prop := ∀ i : Fin 4, (s.reads.slots[i]).freshFor s.pwq

/-- R177: while PFQUIET is asserted the hold is set, the queue and both banks are empty, no long operation is in progress
and RESET is not asserted. -/
def State.QuietHolds (s : State) : Prop := s.faults.pfquiet = true → s.quiet = true

/-- R104, R123: the phases of start-up. -/
def Phase.ofStart : Phase → Bool
  | .mapSweep => true
  | .anchorRead => true
  | .clear => true
  | .anchor0 => true
  | .anchor1 => true
  | .scan => true
  | .restart => true
  | _ => false

/-- R124 to R130: the accesses of start-up, which never walks. -/
def EpochWork.ofStart : EpochWork → Bool
  | .walkReading _ => false
  | .walkWriting _ _ _ _ => false
  | _ => true

/-- R102, R104, R106: what stands while no long operation is in progress: the freeze and the drain demand are lowered, no
arguments are held, and outside STARTING there is no phase and no access of the epoch controller. -/
def State.IdleController (s : State) : Prop :=
  s.ctl.op = none →
    s.ctl.freeze = false ∧ s.ctl.drain = false ∧ s.ctl.formatArgs = none ∧
      (s.ctl.journal ≠ .starting → s.ctl.phase = .noPhase ∧ s.ctl.work = .rest)

/-- R123, R132: while the journal state is STARTING no long operation is in progress, and out of RESET the phase and the
access are start-up's. -/
def State.StartingAlone (s : State) : Prop :=
  s.ctl.journal = .starting →
    s.ctl.op = none ∧ s.ctl.work.ofStart = true ∧ (s.inReset = false → s.ctl.phase.ofStart = true) ∧
      (s.inReset = true → s.ctl.phase = .noPhase)

/-- R33, R102: while RESET is asserted the journal state is STARTING. -/
def State.ResetStarting (s : State) : Prop := s.inReset = true → s.ctl.journal = .starting

/-- The three together. -/
def State.ControllerSound (s : State) : Prop := s.IdleController ∧ s.StartingAlone ∧ s.ResetStarting

/-! ### Words of the statements -/

/-- The state after a request period that carried the frame of a command and was answered: the bytes collected, the zeros
shifted out and the response, and everything else as in `s` (R180, R181). -/
def State.replied (s : State) (tag : Byte) (c : ServiceCommand) (r : Result) (payload : List Byte) : State :=
  { s with service := { s.service with
      rxFrame := encodeRequest tag c
      sdo := List.replicate (1 + (encodeRequest tag c).length) 0
      response := ⟨tag, r, payload⟩ } }

/-- R183: a command is executed: RESET is not asserted, no peek is PENDING and start-up has ended. -/
def State.servesCommands (s : State) : Prop :=
  s.inReset = false ∧ s.service.response.result ≠ .pending ∧ s.ctl.journal ≠ .starting

/-- R105, checks 1 to 3: nothing turns a long operation away before its own conditions. -/
def State.opensOperations (s : State) : Prop :=
  s.servesCommands ∧ s.ctl.op = none ∧ s.faults.hold = false

/-- R20: a legal request that gets past STARTING and the part's own places. -/
def State.takesRequest (s : State) (addr : BitVec 28) (len : Nat) : Prop :=
  s.inReset = false ∧ malformed addr len = false ∧ s.ctl.journal ≠ .starting ∧
    (s.classOf (granuleOf addr.toNat)).isOwn = false

/-- R39: the classifier may take an entry, and `e`, behind `before`, is the oldest UNCLASSIFIED one. -/
def State.wouldTake (s : State) (before : List Entry) (e : Entry) (behind : List Entry) : Prop :=
  s.inReset = false ∧ s.pwq.classifier = .idle ∧ s.ctl.freeze = false ∧ s.ctl.journal ≠ .halted ∧
    s.pwq.entries = before ++ e :: behind ∧ e.stage = .unclassified ∧ ∀ x ∈ before, x.stage ≠ .unclassified

/-! ### Outcomes that several statements share, written out field by field -/

/-- R106: the operation `kind` in progress has ended with an outcome, in journal state `j`, and OP_DONE is set. -/
def State.opEnded (s : State) (kind : OpKind) (outcome : OpOutcome) (j : JournalState) : State :=
  { s with
    ctl := { s.ctl with
      journal := j, op := none, phase := .noPhase, formatArgs := none, freeze := false, drain := false, work := .rest,
      resumeFlush := .notStarted, resumeRead := .notStarted,
      lastOp := some ⟨kind, outcome, s.ctl.epochInEffect⟩ }
    service := { s.service with causes := s.service.causes ||| 0x01 } }

/-- R132: STARTING has ended in journal state `j`: START_DONE is set, and RECOVERY_NEEDED too unless `j` is READY. -/
def State.startEnded (s : State) (j : JournalState) : State :=
  { s with
    ctl := { s.ctl with journal := j, phase := .noPhase, work := .rest, startCycle := none }
    service := { s.service with causes := s.service.causes ||| 0x80 ||| if j = .ready then 0 else 0x20 } }

/-- R64, with R61: from `m` to `n` the maps flip while the sweep engine is idle, and it takes the old active map. -/
def TouchMaps.FlipsTo (m n : TouchMaps) : Prop :=
  n.activeIndex = (!m.activeIndex) ∧ n.active = ⟨m.inactive.setBits, .live⟩ ∧ n.inactive = ⟨[], .sweeping⟩

/-- R66: from `m` to `n` the active map is retired: as by a flip when the inactive map is CLEAN, and when that is SWEEPING
it becomes active, still SWEEPING, and the retired map becomes inactive and DIRTY. -/
def TouchMaps.RetiresTo (m n : TouchMaps) : Prop :=
  (m.inactive.condition = .clean → m.active.condition = .live → m.FlipsTo n) ∧
    (m.inactive.condition = .sweeping →
      n.activeIndex = (!m.activeIndex) ∧ n.active = m.inactive ∧ n.inactive = ⟨m.active.setBits, .dirty⟩)

/-- R66, R106, R116, R142: the operation in progress fails into RECOVERY_FAULT: the active map is retired from READY or
HALTED, and no halted cause stands. -/
def State.FailsTo (s t : State) : Prop :=
  ∀ kind, s.ctl.op = some kind →
    (s.ctl.journal = .ready ∨ s.ctl.journal = .halted → s.maps.RetiresTo t.maps) ∧
      (s.ctl.journal ≠ .ready → s.ctl.journal ≠ .halted → t.maps = s.maps) ∧
      t = { s.opEnded kind .failed .recoveryFault with
        maps := t.maps, faults := { s.faults with haltedCause := none } }

/-- R149: a slot after the entries `gone` have left and the entries `kept` remain. -/
def Slot.afterLeaving (gone kept : List Entry) : Slot → Slot
  | .hazardWait k =>
    if (∃ e ∈ gone, e.granule = k.addr.toNat / 32) ∧ ∀ e ∈ kept, e.granule ≠ k.addr.toNat / 32 then .fetchPending k
    else .hazardWait k
  | sl => sl

/-- R100: a counter after `n` increments. -/
def countedUp (old : Word) (n : Nat) : Nat := min (old.toNat + n) 4294967295

/-- R116, R127, R130: a clear cycle fails: start-up's ends STARTING in RECOVERY_FAULT, and an operation's discards every
UNCLASSIFIED entry whose granule is classed JOURNALED and fails into RECOVERY_FAULT. -/
def State.CycleFailsTo (s t : State) : Prop :=
  let lost (e : Entry) : Bool := e.stage = .unclassified ∧ (s.classOf e.granule).isJournaled = true
  (s.ctl.journal = .starting → t = s.startEnded .recoveryFault) ∧
    (s.ctl.journal ≠ .starting → s.ctl.op ≠ none → ∃ r : State, r.FailsTo t ∧
      r.pwq.entries = s.pwq.entries.filter (fun e => !lost e) ∧
      (∀ i : Fin 4, r.reads.slots[i] = (s.reads.slots[i]).afterLeaving (s.pwq.entries.filter lost) r.pwq.entries) ∧
      (r.counter .writesDiscarded).toNat =
        countedUp (s.counter .writesDiscarded) (s.pwq.entries.filter lost).length ∧
      (∀ k : Counter, k ≠ .writesDiscarded → r.counter k = s.counter k) ∧
      r = { s with
        pwq := { s.pwq with entries := r.pwq.entries }, reads := { s.reads with slots := r.reads.slots },
        counters := r.counters })

/-- R110, R113, R115, R117, R140: the geometry that the anchors of an operation carry: a FORMAT's arguments, and for a
CHECKPOINT, an ADOPT and a ROLLBACK the geometry in effect. A RESUME writes no anchor. -/
def State.operationGeometry (s : State) : OpKind → Option Geometry
  | .format => s.ctl.formatArgs
  | .resume => none
  | _ => s.ctl.geometry

/-- R107, R110, R113, R117, R118, R140: the anchor phase of the operation `kind` has begun over the geometry `g`. A FORMAT,
and an epoch advance that wraps, begin with ANCHOR0 and epoch 0. A CHECKPOINT and a FORMAT write the staged table, an
ADOPT too but for its ANCHOR0, and a ROLLBACK writes the active one. -/
def State.anchorBegun (s : State) (kind : OpKind) (g : Geometry) : State :=
  let epoch0 : Bool := kind = .format ∨ s.ctl.epochInEffect = 0xFFFFFFFF
  { s with ctl := { s.ctl with
      phase := if epoch0 then .anchor0 else .anchor
      work := .anchorWrite false {
        generation := if s.ctl.newest.isSome then s.ctl.generation + 1 else 1
        epoch := if epoch0 then 0 else s.ctl.epochInEffect + 1
        ending := match kind with
          | .checkpoint => .committed
          | .adopt => .adopted
          | .rollback => .rolledBack
          | .format => .formatted
          | .resume => .restarted
        geometry := g
        table := if kind = .rollback ∨ (kind = .adopt ∧ epoch0) then s.regions.active else s.regions.staged } } }

/-- R65: SWEEP_WAIT is entered, and left at once for the anchor phase when the inactive map is CLEAN. -/
def State.SweepWaitsTo (s t : State) : Prop :=
  (s.maps.inactive.condition ≠ .clean → t = { s with ctl := { s.ctl with phase := .sweepWait, work := .rest } }) ∧
    (s.maps.inactive.condition = .clean → ∀ kind g, s.ctl.op = some kind → s.operationGeometry kind = some g →
      t = s.anchorBegun kind g)

/-- R109: DRAIN goes on while a classified entry is queued, and otherwise the drain demand falls and SWEEP_WAIT follows. -/
def State.DrainsTo (s t : State) : Prop :=
  ((∃ e ∈ s.pwq.entries, e.stage ≠ .unclassified) → t = s) ∧
    ((∀ e ∈ s.pwq.entries, e.stage = .unclassified) →
      { s with ctl := { s.ctl with drain := false } }.SweepWaitsTo t)

/-- R138: WALK is entered with walk remaining D, the durable count, at slot D - 1, and ends at once when D is 0. -/
def State.WalksTo (s t : State) : Prop :=
  (∀ d, s.writer.durable = d + 1 →
    t = { s with ctl := { s.ctl with phase := .walk, work := .walkReading d, walkRemaining := d + 1 } }) ∧
    (s.writer.durable = 0 → { s with ctl := { s.ctl with walkRemaining := 0 } }.SweepWaitsTo t)

/-- R87, R136, R137: RESOLVE stays while a record write is in flight. Then the banks are trimmed, and when the queue is
empty and the classifier IDLE it ends, in SCAN from slot 0 when the record count is unknown and in WALK otherwise. -/
def State.ResolveEndsTo (s t : State) : Prop :=
  let trimmed : State := { s with writer := { s.writer with
    bank0 := ⟨.empty, []⟩, bank1 := ⟨.empty, []⟩, nextSeq := s.writer.durable,
    coalesceTimer := none, coalesceDemand := false } }
  ((∃ a, s.port = some ⟨.journalWriter, a⟩) → t = s) ∧
    ((∀ a, s.port ≠ some ⟨.journalWriter, a⟩) →
      (s.pwq.entries ≠ [] ∨ s.pwq.classifier ≠ .idle → t = trimmed) ∧
      (s.pwq.entries = [] → s.pwq.classifier = .idle →
        (s.ctl.countUnknown = true →
          t = { trimmed with ctl := { s.ctl with phase := .scan, work := .scanning 0, walkRemaining := 0 } }) ∧
        (s.ctl.countUnknown = false → trimmed.WalksTo t)))

/-- R39, R40, R135, R149: from `s` to `r` the queue is resolved. Entries of JOURNALED granules go, and of the UNCLASSIFIED
ones of other granules those whose place is closed go with a TABLE_DISCARD report, null writes are elided, and the rest
become READY in the epoch in effect. The counters, the fault record and the read slots follow. -/
def State.QueueResolvesTo (s r : State) : Prop :=
  let journaled (e : Entry) : Bool := (s.classOf e.granule).isJournaled
  let closed (e : Entry) : Bool :=
    e.stage = .unclassified ∧ journaled e = false ∧ s.classOf e.granule ≠ .unprotected
  let elided (e : Entry) : Bool :=
    e.stage = .unclassified ∧ s.classOf e.granule = .unprotected ∧ ∀ w ∈ e.data, w.2 = 0
  let gone (e : Entry) : Bool := journaled e || closed e || elided e
  let reports : List FaultReport := (s.pwq.entries.filter closed).map fun e =>
    ⟨.tableDiscard, .classifier, some e.granule, some e.master, some s.ctl.epochInEffect, none⟩
  let later : List FaultReport := if s.faults.record = none then reports.drop 1 else reports
  r.pwq.entries = (s.pwq.entries.filter fun e => !gone e).map (fun e =>
      if e.stage = .unclassified then { e with stage := .ready, classEpoch := some s.ctl.epochInEffect } else e) ∧
    (∀ i : Fin 4, r.reads.slots[i] = (s.reads.slots[i]).afterLeaving (s.pwq.entries.filter gone) r.pwq.entries) ∧
    (r.counter .writesDiscarded).toNat = countedUp (s.counter .writesDiscarded)
      (s.pwq.entries.filter fun e => journaled e || closed e).length ∧
    (r.counter .writesElided).toNat = countedUp (s.counter .writesElided) (s.pwq.entries.filter elided).length ∧
    (∀ k : Counter, k ≠ .writesDiscarded → k ≠ .writesElided → r.counter k = s.counter k) ∧
    r = { s with
      pwq := { s.pwq with entries := r.pwq.entries }, reads := { s.reads with slots := r.reads.slots },
      faults := { s.faults with
        record := if s.faults.record = none then reports.head? else s.faults.record
        laterFaults := if later = [] then s.faults.laterFaults else min (s.faults.laterFaults + later.length) 65535 }
      service := { s.service with causes := if reports = [] then s.service.causes else s.service.causes ||| 0x02 }
      counters := r.counters }

/-- R87, R135, R136: RESOLVE is entered: the queue is resolved, a classification whose read is not in flight is dropped,
the coalesce timer stops, and RESOLVE goes as far as it can. -/
def State.ResolvesTo (s t : State) : Prop :=
  ∃ r c, { s with ctl := { s.ctl with phase := .resolve, work := .rest } }.QueueResolvesTo r ∧
    ((∃ a, s.port = some ⟨.classifier, a⟩) → c = s.pwq.classifier) ∧
    ((∀ a, s.port ≠ some ⟨.classifier, a⟩) → c = .idle) ∧
    { r with
      pwq := { r.pwq with classifier := c }
      writer := { s.writer with coalesceTimer := none, coalesceDemand := false } }.ResolveEndsTo t

/-- R5, R12: the geometry `g` is in effect in `t`. Where it was not in `s`, an explicit warning level above the new capacity
is replaced by DEFAULT (R91), the slots over the new area are FREE (R157), and a PENDING response is BAD_STATE,
while each peek read and each peek that waits is kept (R187, R188). -/
def State.TakesGeometry (s t : State) (g : Geometry) : Prop :=
  t.ctl.geometry = some g ∧
    (s.ctl.geometry = some g → t.writer.warnSetting = s.writer.warnSetting ∧ t.reads = s.reads ∧ t.service = s.service) ∧
    (s.ctl.geometry ≠ some g →
      (∀ n, s.writer.warnSetting = some n → t.writer.warnSetting = if n ≤ g.size / 48 then some n else none) ∧
      (s.writer.warnSetting = none → t.writer.warnSetting = none) ∧
      t.reads.discardTime = s.reads.discardTime ∧
      (∀ i : Fin 4,
        (∀ k, (s.reads.slots[i]).key? = some k → g.base / 32 ≤ k.addr.toNat / 32 →
          k.addr.toNat / 32 < (g.base + g.size) / 32 → t.reads.slots[i] = .free) ∧
        ((∀ k, (s.reads.slots[i]).key? = some k → k.addr.toNat / 32 < g.base / 32 ∨
          (g.base + g.size) / 32 ≤ k.addr.toNat / 32) → t.reads.slots[i] = s.reads.slots[i])) ∧
      (s.service.response.result = .pending → t.service = { s.service with
        response := ⟨s.service.response.tag, .badState, []⟩ }) ∧
      (s.service.response.result ≠ .pending → t.service = s.service))

/-- R52, R64, R88, R106, R111: the switch point of the operation `kind`, from `s` with the anchor acknowledged: the epoch
of the anchor is in effect, the maps flip, both counts are 0, the READY entries without a record that were classified in
another epoch stand UNCLASSIFIED, and the operation ends SUCCESS in READY. -/
def State.SwitchesTo (s t : State) (kind : OpKind) : Prop :=
  s.maps.FlipsTo t.maps ∧
    t = { s with
      ctl := { s.ctl with
        journal := .ready, op := none, phase := .noPhase, formatArgs := none, freeze := false, drain := false,
        countUnknown := false, walkRemaining := 0, work := .rest, resumeFlush := .notStarted, resumeRead := .notStarted,
        lastOp := some ⟨kind, .success, s.ctl.epoch⟩ }
      maps := t.maps
      pwq := { s.pwq with entries := s.pwq.entries.map fun e =>
        if e.stage = .ready ∧ e.recordSeq = none ∧ e.classEpoch ≠ some s.ctl.epoch then
          { e with stage := .unclassified, classEpoch := none, region := none }
        else e }
      writer := { s.writer with nextSeq := 0, durable := 0, warnArmed := true, fullArmed := true }
      faults := { s.faults with haltedCause := none }
      service := { s.service with causes := s.service.causes ||| 0x01 }
      counters := s.counters.set 13 (satInc s.counters[13]) }

/-- R88, R127, R130, R132: start-up ends READY in the epoch of its acknowledged anchor: both counts are 0, the attentions
are re-armed, EPOCHS_OPENED rises and START_DONE is set. The maps are the caller's. -/
def State.epochStarted (s : State) (m : TouchMaps) : State :=
  { s with
    ctl := { s.ctl with journal := .ready, phase := .noPhase, work := .rest, startCycle := none }
    maps := m
    writer := { s.writer with nextSeq := 0, durable := 0, warnArmed := true, fullArmed := true }
    service := { s.service with causes := s.service.causes ||| 0x80 }
    counters := s.counters.set 13 (satInc s.counters[13]) }

end Sys2Proof.Machine
end

