-- ==== Sys2Proof/Certificates/Slice0/Obligations.lean ====
section
/-! DEFINITION. The statements for the provers. A statement that says what a command does gives its whole next state,
so what the next state does not name is as it was. -/

open Sys2Proof Sys2Proof.Machine

/-! ### The machine -/

/-- A step takes the command at the front of the queue and runs it on the state with the queue's rest, and on an
empty queue the part idles (assumption 1, the model's choice). -/
def Obligations.StepTakesFront : Prop :=
  (∀ (c : Instr) (rest : List Instr) (s : State), s.pending = c :: rest →
    step s = exec c { s with pending := rest }) ∧
  ∀ s : State, s.pending = [] → step s = .next s

/-- Every command completes in every state and leaves the waiting commands as they are, but for a grant of an access
that lies outside the address space, which R161 says the part never forms. The model's own here: a command whose
happening cannot occur completes with the state as it is (assumption 3), and that a grant outside the address space
is a fault (assumption 15). -/
def Obligations.OnlyGrantStops : Prop :=
  ∀ (c : Instr) (s : State), (∃ t, exec c s = .next t ∧ t.pending = s.pending) ∨
    (c = .memoryGrant ∧ exec c s = .fault .outsideAddressSpace ∧ s.inReset = false ∧ s.port = none ∧
      ∃ f : InFlight, s.chosen = some f ∧ Config.addressSpace < f.access.addr + 4 * f.access.len)

/-- While RESET is asserted a command other than those of the RESET and PFAIL lines changes nothing (assumption 8).
-/
def Obligations.HeldInReset : Prop :=
  ∀ (c : Instr) (s : State), s.inReset = true → (∀ left, c ≠ .resetAsserted left) → c ≠ .resetReleased →
    c ≠ .pfailAsserted → c ≠ .pfailDeasserted → exec c s = .next s

/-! ### RESET and PFAIL -/

/-- What RESET leaves: the values of R8, R33, R58, R68, R93, R102, R160, R163, R168, R171 and R190, the hold as it
was, and every byte of memory that an abandoned write did not address. The command completes in every state. The
model's own here: the bytes a failed or abandoned write leaves come with it (assumption 7). -/
def Obligations.ResetValues : Prop :=
  ∀ (left : List Byte) (s : State), ∃ t, exec (.resetAsserted left) s = .next t ∧
    t.inReset = true ∧ t.host.nextNumber = 0 ∧
    (∀ i : Fin 8, t.regions.active[i] = RegionEntry.unused ∧ t.regions.staged[i] = RegionEntry.unused) ∧
    t.pwq.entries = [] ∧ t.pwq.classifier = .idle ∧
    t.maps.activeIndex = false ∧ t.maps.map0.condition = .sweeping ∧ t.maps.map1.condition = .dirty ∧
    t.writer.nextSeq = 0 ∧ t.writer.durable = 0 ∧ t.writer.bank0 = ⟨.empty, []⟩ ∧ t.writer.bank1 = ⟨.empty, []⟩ ∧
    t.writer.lastSealed = none ∧ t.writer.coalesceTimer = none ∧ t.writer.coalesceDemand = false ∧ t.writer.flushThreshold = 8 ∧
    t.writer.coalesceTime = 20 ∧ t.writer.warnSetting = none ∧ t.writer.warnArmed = true ∧ t.writer.fullArmed = true ∧
    (∀ i : Fin 4, t.reads.slots[i] = .free) ∧ t.reads.discardTime = 2000 ∧ t.port = none ∧
    t.ctl.journal = .starting ∧ t.ctl.newest = none ∧ t.ctl.generation = 0 ∧ t.ctl.epoch = 0 ∧
    t.ctl.clearPending = false ∧ t.ctl.epochInEffect = 0 ∧ t.ctl.geometry = none ∧ t.ctl.op = none ∧
    t.ctl.phase = .noPhase ∧ t.ctl.formatArgs = none ∧ t.ctl.freeze = false ∧ t.ctl.drain = false ∧
    t.ctl.countUnknown = false ∧ t.ctl.walkRemaining = 0 ∧ t.ctl.lastOp = none ∧
    t.faults.record = none ∧ t.faults.laterFaults = 0 ∧ t.faults.haltedCause = none ∧
    t.faults.hold = s.faults.hold ∧ t.faults.pfquiet = false ∧
    t.service.response = ⟨0, .ok, []⟩ ∧ t.service.rxFrame = [] ∧ t.service.peekRead = none ∧
    t.service.peekWaiting = [] ∧ t.service.causes = 0 ∧ t.service.mask = 0xFF ∧ t.attn = false ∧
    (∀ k : Counter, t.counter k = 0) ∧
    ∀ a : Nat,
      (∀ (f : InFlight) (addr : Nat) (words : List LaneWord), s.port = some f → f.access = .write addr words →
        a < addr ∨ addr + 4 * words.length ≤ a) →
      readByte t.mem a = readByte s.mem a

/-- The release of RESET begins start-up in MAP_SWEEP, and under PFAIL it asserts PFQUIET and sets PF_QUIET. -/
def Obligations.ResetReleased : Prop :=
  ∀ s : State, s.inReset = true →
    (s.faults.hold = false →
      exec .resetReleased s =
        .next { s with inReset := false, ctl := { s.ctl with phase := .mapSweep, work := .rest } }) ∧
    (s.faults.hold = true → s.faults.pfquiet = false → s.pwq.entries = [] → s.writer.bank0.state = .empty →
      s.writer.bank1.state = .empty → s.ctl.op = none →
      exec .resetReleased s = .next { s with
        inReset := false
        ctl := { s.ctl with phase := .mapSweep, work := .rest }
        faults := { s.faults with pfquiet := true }
        service := { s.service with causes := s.service.causes ||| 0x40 } })

/-- PFAIL sets the hold, which seals a FILLING bank beside an EMPTY one and asserts PFQUIET when everything is
quiet, and its deassertion clears the hold and PFQUIET. -/
def Obligations.PfailLines : Prop :=
  (∀ s : State, exec .pfailDeasserted s =
    .next { s with faults := { s.faults with hold := false, pfquiet := false } }) ∧
  ∀ s : State, s.faults.hold = false → ∃ t, exec .pfailAsserted s = .next t ∧
    t.faults.hold = true ∧
    (∀ b : Bool, s.writer.bankIn .filling = some b → (s.writer.bank (!b)).state = .empty → s.ctl.resolving = false →
      (t.writer.bank b).state = .flushing ∧ (t.writer.bank b).records = (s.writer.bank b).records ∧
      t.writer.bank (!b) = s.writer.bank (!b) ∧ t.writer.lastSealed = some b ∧ t.writer.coalesceTimer = none ∧
      t.writer.coalesceDemand = false ∧ t.counter .flushes = satInc (s.counter .flushes) ∧
      t.faults.pfquiet = s.faults.pfquiet ∧ t.service = s.service) ∧
    (s.writer.bankIn .filling = none → s.faults.pfquiet = false →
      t.writer = s.writer ∧ t.counters = s.counters ∧
      t.faults.pfquiet = (!s.inReset && s.pwq.entries.isEmpty && s.writer.banksEmpty && s.ctl.op.isNone) ∧
      t.service = { s.service with
        causes := if t.faults.pfquiet then s.service.causes ||| 0x40 else s.service.causes }) ∧
    t = { s with writer := t.writer, faults := { s.faults with hold := true, pfquiet := t.faults.pfquiet },
                 service := t.service, counters := t.counters }

/-! ### Region table -/

/-- A lookup's class: ANCHOR, RECORD_AREA and UNPROTECTED in every table, and in a legal table, where the classes do
not compete, JOURNALED with entry index, touch index and elide flag, and FROZEN with entry index. The touch indices
of a legal table lie in 0 to 65,535, and no two granules share one. The model's own here: ANCHOR and RECORD_AREA
come before every entry in a table that is not legal (assumption 16). -/
def Obligations.LookupClasses : Prop :=
  ∀ (t : Table) (geometry : Option Geometry) (granule : Nat),
    let inArea := ∃ g, geometry = some g ∧ g.base / 32 ≤ granule ∧ granule < (g.base + g.size) / 32
    let covers (j : Fin 8) := t[j].mode ≠ .off ∧ t[j].base ≤ granule ∧ granule < t[j].base + t[j].length
    (lookup t geometry granule = .anchor ↔ granule < 8) ∧
    (lookup t geometry granule = .recordArea ↔ 8 ≤ granule ∧ inArea) ∧
    (lookup t geometry granule = .unprotected ↔ 8 ≤ granule ∧ ¬inArea ∧ ∀ j, ¬covers j) ∧
    ∀ g, geometry = some g → g.legal = true → t.legal g = true →
      (∀ (j : Fin 8) (touch : Nat) (elide : Bool), lookup t geometry granule = .journaled j touch elide ↔
        covers j ∧ t[j].mode = .journaled ∧ elide = t[j].elide ∧
          touch = (((List.finRange 8).filter fun k => k < j ∧ t[k].mode = .journaled).map fun k => t[k].length).sum +
            (granule - t[j].base)) ∧
      (∀ j : Fin 8, lookup t geometry granule = .frozen j ↔ covers j ∧ t[j].mode = .frozen) ∧
      ∀ (j touch : Nat) (elide : Bool), lookup t geometry granule = .journaled j touch elide → j < 8 ∧ touch < 65536 ∧
        ∀ (other i : Nat) (e : Bool), lookup t geometry other = .journaled i touch e → other = granule

/-! ### Host port and read slots -/

/-- R19: what is malformed, its ERROR in every journal state and under the hold with no state changed but the
counter, and that a legal request lies inside the granule of its first word. `response` is the model's record of the
answer. The model's own here: the answer is held in `host.response` (assumption 14). -/
def Obligations.MalformedRefused : Prop :=
  (∀ (addr : BitVec 28) (len : Nat), malformed addr len = true ↔
    ¬((len = 1 ∨ len = 2 ∨ len = 4 ∨ len = 8) ∧ 4 * len ∣ addr.toNat)) ∧
  (∀ (m : BitVec 3) (addr : BitVec 28) (len : Nat) (data : List LaneWord) (s : State), s.inReset = false →
    malformed addr len = true →
    exec (.hostRead m addr len) s = .next { s with
      host := { s.host with response := some .error }
      counters := s.counters.set 6 (satInc s.counters[6]) } ∧
    exec (.hostWrite m addr len data) s = .next { s with
      host := { s.host with response := some .error }
      counters := s.counters.set 6 (satInc s.counters[6]) }) ∧
  ∀ (addr : BitVec 28) (len : Nat), malformed addr len = false →
    ∀ j < 4 * len, granuleOf (addr.toNat + j) = granuleOf addr.toNat

/-- The requests the host port turns away before the write checks and the read slots: in STARTING with RETRY, at the
anchor block and the record area with ERROR, and JOURNALED reads during a ROLLBACK with RETRY. The model's own here:
the answer is held in `host.response` (assumption 14). -/
def Obligations.HostTurnedAway : Prop :=
  ∀ (m : BitVec 3) (addr : BitVec 28) (len : Nat) (data : List LaneWord) (s : State), s.inReset = false →
    malformed addr len = false →
    (s.ctl.journal = .starting →
      exec (.hostRead m addr len) s = .next ((s.answerHost .retry).bump .retriesState) ∧
      exec (.hostWrite m addr len data) s = .next ((s.answerHost .retry).bump .retriesState)) ∧
    (s.ctl.journal ≠ .starting →
      s.classOf (granuleOf addr.toNat) = .anchor ∨ s.classOf (granuleOf addr.toNat) = .recordArea →
      exec (.hostRead m addr len) s = .next ((s.answerHost .error).bump .requestsRefused) ∧
      exec (.hostWrite m addr len data) s = .next ((s.answerHost .error).bump .requestsRefused)) ∧
    (s.ctl.journal ≠ .starting → s.ctl.op = some .rollback →
      ∀ (i touch : Nat) (elide : Bool), s.classOf (granuleOf addr.toNat) = .journaled i touch elide →
      exec (.hostRead m addr len) s = .next ((s.answerHost .retry).bump .retriesState))

/-- A read whose key a slot holds is answered by the slot's state: DATA or ERROR with the slot freed, or RETRY with
the slot unchanged. The model's own here: the answer is held in `host.response` (assumption 14). -/
def Obligations.ReadMatched : Prop :=
  ∀ (m : BitVec 3) (addr : BitVec 28) (len : Nat) (i : Fin 4) (s : State), s.takesRequest addr len →
    (s.ctl.op = some .rollback → (s.classOf (granuleOf addr.toNat)).isJournaled = false) →
    (s.reads.slots[i]).key? = some ⟨m, addr, len⟩ → (∀ j < i, (s.reads.slots[j]).key? ≠ some ⟨m, addr, len⟩) →
    (∀ words timer, s.reads.slots[i] = .ready ⟨m, addr, len⟩ words timer →
      exec (.hostRead m addr len) s = .next
        (({ s with reads := { s.reads with slots := s.reads.slots.set i .free } }.answerHost (.data words)).bump
          .readsDelivered)) ∧
    (∀ timer, s.reads.slots[i] = .failed ⟨m, addr, len⟩ timer →
      exec (.hostRead m addr len) s = .next
        (({ s with reads := { s.reads with slots := s.reads.slots.set i .free } }.answerHost .error).bump
          .requestsRefused)) ∧
    (((∃ k, s.reads.slots[i] = .hazardWait k) ∨ (∃ k, s.reads.slots[i] = .fetchPending k) ∨
        ∃ k stale, s.reads.slots[i] = .fetching k stale) →
      exec (.hostRead m addr len) s = .next ((s.answerHost .retry).bump .retriesRead))

/-- A read that matches no slot is given the lowest FREE one, in HAZARD_WAIT when a queued write addresses its
granule and in FETCH_PENDING otherwise, and is counted in SLOTS_EXHAUSTED when no slot is FREE. The model's own
here: the answer is held in `host.response` (assumption 14). -/
def Obligations.ReadAllocated : Prop :=
  ∀ (m : BitVec 3) (addr : BitVec 28) (len : Nat) (s : State), s.takesRequest addr len →
    (s.ctl.op = some .rollback → (s.classOf (granuleOf addr.toNat)).isJournaled = false) →
    (∀ j : Fin 4, (s.reads.slots[j]).key? ≠ some ⟨m, addr, len⟩) →
    (∀ i : Fin 4, s.reads.slots[i] = .free → (∀ j < i, s.reads.slots[j] ≠ .free) →
      ((∃ e ∈ s.pwq.entries, e.granule = granuleOf addr.toNat) →
        exec (.hostRead m addr len) s = .next
          (({ s with reads := { s.reads with slots := s.reads.slots.set i (.hazardWait ⟨m, addr, len⟩) } }.answerHost
            .retry).bump .retriesRead)) ∧
      ((∀ e ∈ s.pwq.entries, e.granule ≠ granuleOf addr.toNat) →
        exec (.hostRead m addr len) s = .next
          (({ s with reads := { s.reads with slots := s.reads.slots.set i (.fetchPending ⟨m, addr, len⟩) } }.answerHost
            .retry).bump .retriesRead))) ∧
    ((∀ i : Fin 4, s.reads.slots[i] ≠ .free) →
      exec (.hostRead m addr len) s = .next ((s.answerHost .retry).bump .slotsExhausted))

/-- The writes that are turned away past the part's own places, in the order of the checks: FROZEN and unjournalable
JOURNALED granules with ERROR, then the hold, a ROLLBACK and a full queue with RETRY. The model's own here: the
answer is held in `host.response` (assumption 14). -/
def Obligations.WriteTurnedAway : Prop :=
  ∀ (m : BitVec 3) (addr : BitVec 28) (len : Nat) (data : List LaneWord) (s : State), s.takesRequest addr len →
    ((∃ i, s.classOf (granuleOf addr.toNat) = .frozen i) ∨
        ((s.classOf (granuleOf addr.toNat)).isJournaled = true ∧
          (s.ctl.journal = .recoveryPending ∨ s.ctl.journal = .recoveryFault ∨ s.ctl.clearPending = true)) →
      exec (.hostWrite m addr len data) s = .next ((s.answerHost .error).bump .requestsRefused)) ∧
    ((∀ i, s.classOf (granuleOf addr.toNat) ≠ .frozen i) →
      ((s.classOf (granuleOf addr.toNat)).isJournaled = true →
        s.ctl.journal ≠ .recoveryPending ∧ s.ctl.journal ≠ .recoveryFault ∧ s.ctl.clearPending = false) →
      (s.faults.hold = true ∨ s.ctl.op = some .rollback →
        exec (.hostWrite m addr len data) s = .next ((s.answerHost .retry).bump .retriesState)) ∧
      (s.faults.hold = false → s.ctl.op ≠ some .rollback → 16 ≤ s.pwq.entries.length →
        exec (.hostWrite m addr len data) s = .next ((s.answerHost .retry).bump .retriesQueueFull)))

/-- An accepted write joins the queue at the tail, UNCLASSIFIED, with the next acceptance number, and every read
slot of its granule changes by its state. The model's own here: the answer is held in `host.response` (assumption
14). -/
def Obligations.WriteAccepted : Prop :=
  ∀ (m : BitVec 3) (addr : BitVec 28) (len : Nat) (data : List LaneWord) (s : State), s.takesRequest addr len →
    (∀ i, s.classOf (granuleOf addr.toNat) ≠ .frozen i) →
    ((s.classOf (granuleOf addr.toNat)).isJournaled = true →
      s.ctl.journal ≠ .recoveryPending ∧ s.ctl.journal ≠ .recoveryFault ∧ s.ctl.clearPending = false) →
    s.faults.hold = false → s.ctl.op ≠ some .rollback → s.pwq.entries.length < 16 →
    ∃ t, exec (.hostWrite m addr len data) s = .next t ∧
      t.pwq.entries = s.pwq.entries ++
        [⟨s.host.nextNumber, m, addr.toNat / 32, addr.toNat / 4 % 8, len, data, .unclassified, none, none, none⟩] ∧
      t.host = ⟨s.host.nextNumber + 1, some .okay⟩ ∧
      (∀ i : Fin 4, t.reads.slots[i] =
        match s.reads.slots[i] with
        | .fetchPending k => if k.granule = addr.toNat / 32 then .hazardWait k else .fetchPending k
        | .fetching k stale => .fetching k (stale || decide (k.granule = addr.toNat / 32))
        | .ready k words timer => if k.granule = addr.toNat / 32 then .hazardWait k else .ready k words timer
        | other => other) ∧
      t = { s with
        host := t.host, pwq := { s.pwq with entries := t.pwq.entries },
        reads := { s.reads with slots := t.reads.slots },
        counters := s.counters.set 0 (satInc s.counters[0]) }

/-! ### Service port -/

/-- A command sent while a peek is PENDING is dropped and counted, and in STARTING a command other than the three
readings is answered BAD_STATE without effect. The model's own here: `sdo` records the bytes shifted out (assumption
14). -/
def Obligations.CommandsTurnedAway : Prop :=
  ∀ (tag : Byte) (c : ServiceCommand) (s : State), s.inReset = false →
    (s.service.response.result = .pending →
      exec (c.toInstr tag) s =
        .next ({ s with service := { s.service with
          rxFrame := encodeRequest tag c, sdo := List.replicate (1 + (encodeRequest tag c).length) 0 } }.bump
          .serviceDropped)) ∧
    (s.service.response.result ≠ .pending → s.ctl.journal = .starting →
      c ≠ .getStatus → c ≠ .getFault → c ≠ .getCounters →
      exec (c.toInstr tag) s = .next (s.replied tag c .badState []))

/-- GET_STATUS answers OK, in STARTING too, with the 60 bytes of the status payload and no other effect. The model's
own here: `sdo` records the bytes shifted out (assumption 14). -/
def Obligations.StatusReading : Prop :=
  ∀ (tag : Byte) (s : State), s.inReset = false → s.service.response.result ≠ .pending →
    ∃ p : List Byte, exec (.getStatus tag) s = .next (s.replied tag .getStatus .ok p) ∧ p.length = 60 ∧
      p[0]? = some (byteOf s.ctl.journal.code) ∧
      (∃ flags : Byte, p[1]? = some flags ∧ flags.getLsbD 0 = s.ctl.clearPending ∧
        flags.getLsbD 1 = s.faults.hold ∧ flags.getLsbD 2 = s.ctl.geometry.isSome ∧
        flags.getLsbD 3 = s.ctl.countUnknown ∧ flags.toNat < 16) ∧
      p[2]? = some (byteOf (OpKind.code s.ctl.op)) ∧ p[3]? = some (byteOf s.ctl.phase.code) ∧
      (s.ctl.lastOp = none → p[4]? = some 0 ∧ p[5]? = some 0) ∧
      (∀ l, s.ctl.lastOp = some l →
        p[4]? = some (byteOf (OpKind.code (some l.kind))) ∧ p[5]? = some (byteOf l.outcome.code) ∧
          (p.drop 8).take 4 = wordBytes l.epochAfter) ∧
      p[6]? = some (byteOf (HaltCause.code s.faults.haltedCause)) ∧
      (∃ maps : Byte, p[7]? = some maps ∧ maps.getLsbD 0 = s.maps.activeIndex ∧
        maps.getLsbD 1 = decide (s.maps.active.condition = .sweeping) ∧
        (maps >>> 2).toNat = s.maps.inactive.condition.inactiveCode) ∧
      (p.drop 12).take 4 = wordBytes s.ctl.epochInEffect ∧ (p.drop 16).take 4 = wordBytes s.ctl.generation ∧
      (∀ g, s.ctl.geometry = some g →
        (p.drop 20).take 4 = wordBytes (wordOfNat g.base) ∧ (p.drop 24).take 4 = wordBytes (wordOfNat g.size) ∧
          (p.drop 28).take 4 = wordBytes (wordOfNat (g.size / 48))) ∧
      (s.ctl.geometry = none → (p.drop 20).take 12 = List.replicate 12 0 ∧ (p.drop 40).take 4 = [0, 0, 0, 0]) ∧
      (p.drop 32).take 4 = wordBytes (wordOfNat s.writer.nextSeq) ∧
      (p.drop 36).take 4 = wordBytes (wordOfNat s.writer.durable) ∧
      (p.drop 40).take 4 = wordBytes (wordOfNat s.warnLevel) ∧
      (p.drop 44).take 4 = wordBytes (wordOfNat s.ctl.walkRemaining) ∧
      p[48]? = some (byteOf s.pwq.entries.length) ∧ p[49]? = some (byteOf s.pwq.unclassifiedCount) ∧
      p[50]? = some (byteOf s.writer.bank0.state.code) ∧ p[51]? = some (byteOf s.writer.bank0.records.length) ∧
      p[52]? = some (byteOf s.writer.bank1.state.code) ∧ p[53]? = some (byteOf s.writer.bank1.records.length) ∧
      (∀ i : Fin 4, p[54 + i.val]? = some (byteOf (s.reads.slots[i]).code)) ∧
      p[58]? = some s.service.causes ∧ p[59]? = some s.service.mask

/-- GET_FAULT and GET_COUNTERS answer OK, in STARTING too, with their payloads and no other effect. The model's own
here: `sdo` records the bytes shifted out (assumption 14). -/
def Obligations.FaultAndCountersReading : Prop :=
  ∀ (tag : Byte) (s : State), s.inReset = false → s.service.response.result ≠ .pending →
    (s.faults.record = none →
      exec (.getFault tag) s = .next (s.replied tag .getFault .ok (List.replicate 18 0))) ∧
    (∀ r, s.faults.record = some r → ∃ p : List Byte,
      exec (.getFault tag) s = .next (s.replied tag .getFault .ok p) ∧ p.length = 18 ∧
      p[0]? = some (byteOf r.kind.code) ∧ p[1]? = some (byteOf r.source.code) ∧
      (∃ presence : Byte, p[2]? = some presence ∧ presence.getLsbD 0 = r.granule.isSome ∧
        presence.getLsbD 1 = r.master.isSome ∧ presence.getLsbD 2 = r.epoch.isSome ∧
        presence.getLsbD 3 = r.slotOrSeq.isSome ∧ presence.toNat < 16) ∧
      p[3]? = some ((r.master.getD 0).setWidth 8) ∧
      (p.drop 4).take 4 = wordBytes (wordOfNat (r.granule.getD 0)) ∧
      (p.drop 8).take 4 = wordBytes (r.epoch.getD 0) ∧
      (p.drop 12).take 4 = wordBytes (wordOfNat (r.slotOrSeq.getD 0)) ∧
      p.drop 16 = halfBytes (BitVec.ofNat 16 s.faults.laterFaults)) ∧
    ∃ p : List Byte, exec (.getCounters tag) s = .next (s.replied tag .getCounters .ok p) ∧ p.length = 64 ∧
      ∀ k : Counter, (p.drop (4 * k.index.val)).take 4 = wordBytes (s.counter k)

/-- CLEAR_FAULT empties the fault record and its later-fault count, CLEAR_COUNTERS zeroes the sixteen counters, and
CLEAR_ATTENTION clears the causes its mask names, each answered OK with nothing else changed. The model's own here:
`sdo` records the bytes shifted out (assumption 14). -/
def Obligations.ClearCommands : Prop :=
  ∀ (tag mask : Byte) (s : State), s.servesCommands →
    exec (.clearFault tag) s = .next
      ({ s with faults := { s.faults with record := none, laterFaults := 0 } }.replied tag .clearFault .ok []) ∧
    (∃ t, exec (.clearCounters tag) s = .next t ∧ (∀ k : Counter, t.counter k = 0) ∧
      t = { s with counters := t.counters }.replied tag .clearCounters .ok []) ∧
    ∃ t, exec (.clearAttention tag mask) s = .next t ∧
      (∀ b < 8, t.service.causes.getLsbD b = (s.service.causes.getLsbD b && !mask.getLsbD b)) ∧
      t = { s with service := { s.service with causes := t.service.causes } }.replied tag (.clearAttention mask) .ok []

/-- SET_TUNING with all five values in range sets them together. A changed threshold seals the FILLING bank at once
beside an EMPTY bank when a seal condition then holds, and seals nothing otherwise. A changed setting makes the
warning test. With any value out of its range it is answered BAD_ARGUMENT, and none of the five is changed. The
model's own here: `sdo` records the bytes shifted out (assumption 14), and a repeated value changes nothing
(assumption 18). -/
def Obligations.TuningDecided : Prop :=
  ∀ (tag threshold : Byte) (coalesce discard : BitVec 16) (warning : Word) (mask : Byte) (s : State),
    s.servesCommands →
    ((threshold.toNat < 1 ∨ 16 < threshold.toNat ∨ 1023 < coalesce.toNat ∨ discard.toNat < 1 ∨
        (warning ≠ 0 ∧ (s.ctl.geometry = none ∨ s.capacity < warning.toNat))) →
      exec (.setTuning tag threshold coalesce discard warning mask) s =
        .next (s.replied tag (.setTuning threshold coalesce discard warning mask) .badArgument [])) ∧
    (1 ≤ threshold.toNat → threshold.toNat ≤ 16 → coalesce.toNat ≤ 1023 → 1 ≤ discard.toNat →
    (warning = 0 ∨ (s.ctl.geometry.isSome = true ∧ warning.toNat ≤ s.capacity)) →
    ∃ t, exec (.setTuning tag threshold coalesce discard warning mask) s = .next t ∧
      t.service.response = ⟨tag, .ok, []⟩ ∧ t.service.mask = mask ∧
      t.reads = { s.reads with discardTime := discard.toNat } ∧
      t.writer.flushThreshold = threshold.toNat ∧ t.writer.coalesceTime = coalesce.toNat ∧
      t.writer.warnSetting = (if warning = 0 then none else some warning.toNat) ∧
      (let seals (b : Bool) : Prop := threshold.toNat ≠ s.writer.flushThreshold ∧ s.writer.bankIn .filling = some b ∧
          (s.writer.bank (!b)).state = .empty ∧ ¬(s.ctl.op = some .rollback ∧ s.ctl.phase = .resolve) ∧
          (threshold.toNat ≤ (s.writer.bank b).records.length ∨ s.writer.coalesceDemand = true ∨ s.ctl.drain = true ∨
            s.faults.hold = true ∨ (s.writer.bank b).records.length = 16);
        (∀ b : Bool, seals b → t.writer.bank b = ⟨.flushing, (s.writer.bank b).records⟩ ∧
          t.writer.bank (!b) = s.writer.bank (!b) ∧ t.writer.lastSealed = some b ∧ t.writer.coalesceTimer = none ∧
          t.writer.coalesceDemand = false ∧ t.counters = s.counters.set 10 (satInc s.counters[10])) ∧
        ((∀ b : Bool, ¬seals b) → t.writer.bank0 = s.writer.bank0 ∧ t.writer.bank1 = s.writer.bank1 ∧
          t.writer.lastSealed = s.writer.lastSealed ∧ t.writer.coalesceTimer = s.writer.coalesceTimer ∧
          t.writer.coalesceDemand = s.writer.coalesceDemand ∧ t.counters = s.counters)) ∧
      (let warns : Prop := s.writer.warnArmed = true ∧ t.writer.warnSetting ≠ s.writer.warnSetting ∧
          t.warnLevel ≠ 0 ∧ t.warnLevel ≤ s.writer.durable;
        (warns → t.service.causes = s.service.causes ||| 0x04 ∧ t.writer.warnArmed = false) ∧
        (¬warns → t.service.causes = s.service.causes ∧ t.writer.warnArmed = s.writer.warnArmed)) ∧
      t = { s with
        writer := { s.writer with
          bank0 := t.writer.bank0, bank1 := t.writer.bank1, lastSealed := t.writer.lastSealed,
          coalesceTimer := t.writer.coalesceTimer, coalesceDemand := t.writer.coalesceDemand,
          flushThreshold := t.writer.flushThreshold, coalesceTime := t.writer.coalesceTime,
          warnSetting := t.writer.warnSetting, warnArmed := t.writer.warnArmed }
        reads := t.reads
        service := { s.service with mask := mask, causes := t.service.causes }
        counters := t.counters }.replied tag (.setTuning threshold coalesce discard warning mask) .ok [])

/-- STAGE_REGION with an entry that passes its checks replaces that entry of the staged table and nothing else. The
model's own here: `sdo` records the bytes shifted out (assumption 14). -/
def Obligations.RegionStaged : Prop :=
  ∀ (tag index : Byte) (e : StoredEntry) (s : State) (h : index.toNat < 8), s.servesCommands → s.ctl.op = none →
    let put (r : RegionEntry) : State :=
      { s with regions := { s.regions with staged := s.regions.staged.set index.toNat r h } }.replied tag
        (.stageRegion index e) .ok []
    (e.mode = 0 → exec (.stageRegion tag index e) s = .next (put ⟨.off, 0, 0, false⟩)) ∧
    (1 ≤ e.length.toNat → e.length.toNat ≤ 65536 → e.base.toNat + e.length.toNat ≤ 8388608 → 8 ≤ e.base.toNat →
      (∀ g, s.ctl.geometry = some g → ∀ granule, e.base.toNat ≤ granule → granule < e.base.toNat + e.length.toNat →
        g.covers granule = false) →
      (e.mode = 1 → exec (.stageRegion tag index e) s =
        .next (put ⟨.journaled, e.base.toNat, e.length.toNat, e.elide.getLsbD 0⟩)) ∧
      (e.mode = 2 → exec (.stageRegion tag index e) s =
        .next (put ⟨.frozen, e.base.toNat, e.length.toNat, false⟩)))

/-- STAGE_REGION is refused BUSY during a long operation, and BAD_ARGUMENT where a check of the entry fails, with
the staged table unchanged. The model's own here: `sdo` records the bytes shifted out (assumption 14). -/
def Obligations.RegionNotStaged : Prop :=
  ∀ (tag index : Byte) (e : StoredEntry) (s : State), s.servesCommands →
    (s.ctl.op ≠ none → exec (.stageRegion tag index e) s =
      .next (s.replied tag (.stageRegion index e) .busy [])) ∧
    (s.ctl.op = none →
      (8 ≤ index.toNat ∨ 2 < e.mode.toNat ∨
        (e.mode ≠ 0 ∧
          (e.length.toNat < 1 ∨ 65536 < e.length.toNat ∨ 8388608 < e.base.toNat + e.length.toNat ∨ e.base.toNat < 8 ∨
            ∃ g granule, s.ctl.geometry = some g ∧ e.base.toNat ≤ granule ∧
              granule < e.base.toNat + e.length.toNat ∧ g.covers granule = true))) →
      exec (.stageRegion tag index e) s = .next (s.replied tag (.stageRegion index e) .badArgument []))

/-- GET_REGION answers the twelve stored bytes of an entry of the active or the staged table, and BAD_ARGUMENT for
another copy or index. The model's own here: `sdo` records the bytes shifted out (assumption 14). -/
def Obligations.RegionRead : Prop :=
  ∀ (tag copy index : Byte) (s : State), s.servesCommands →
    (∀ h : index.toNat < 8,
      (copy = 0 → ∃ p, exec (.getRegion tag copy index) s = .next (s.replied tag (.getRegion copy index) .ok p) ∧
        p = wordBytes (wordOfNat (s.regions.active[index.toNat]).base) ++
          wordBytes (wordOfNat (s.regions.active[index.toNat]).length) ++
          [byteOf (s.regions.active[index.toNat]).mode.code,
            if (s.regions.active[index.toNat]).elide then 1 else 0, 0, 0]) ∧
      (copy = 1 → ∃ p, exec (.getRegion tag copy index) s = .next (s.replied tag (.getRegion copy index) .ok p) ∧
        p = wordBytes (wordOfNat (s.regions.staged[index.toNat]).base) ++
          wordBytes (wordOfNat (s.regions.staged[index.toNat]).length) ++
          [byteOf (s.regions.staged[index.toNat]).mode.code,
            if (s.regions.staged[index.toNat]).elide then 1 else 0, 0, 0])) ∧
    (8 ≤ index.toNat ∨ 2 ≤ copy.toNat →
      exec (.getRegion tag copy index) s = .next (s.replied tag (.getRegion copy index) .badArgument []))

/-- The order of a long operation's admission checks past STARTING, for each of the five commands: BUSY, POWER_HOLD,
BAD_STATE, then FORMAT's BAD_ARGUMENT and TABLE_INVALID, each without effect on the part. The model's own here:
`sdo` records the bytes shifted out (assumption 14). -/
def Obligations.LongOpsRefused : Prop :=
  ∀ (tag : Byte) (base size : Word) (s : State), s.servesCommands →
    (∀ c ∈ [ServiceCommand.checkpoint, .adopt, .rollback, .format base size, .resume],
      (s.ctl.op ≠ none → exec (c.toInstr tag) s = .next (s.replied tag c .busy [])) ∧
      (s.ctl.op = none → s.faults.hold = true → exec (c.toInstr tag) s = .next (s.replied tag c .powerHold []))) ∧
    (s.ctl.op = none → s.faults.hold = false →
      (s.ctl.journal ≠ .ready → exec (.checkpoint tag) s = .next (s.replied tag .checkpoint .badState [])) ∧
      (s.ctl.journal ≠ .recoveryPending → (s.ctl.journal = .recoveryFault → s.ctl.clearPending = true) →
        exec (.adopt tag) s = .next (s.replied tag .adopt .badState [])) ∧
      (s.ctl.journal = .unformatted ∨ (s.ctl.journal = .recoveryFault ∧ s.ctl.clearPending = true) →
        exec (.rollback tag) s = .next (s.replied tag .rollback .badState [])) ∧
      (s.ctl.journal = .halted ∨ s.ctl.journal = .recoveryPending ∨
          (s.ctl.journal = .recoveryFault ∧ s.ctl.clearPending = false) →
        exec (.format tag base size) s = .next (s.replied tag (.format base size) .badState [])) ∧
      (s.ctl.journal ≠ .halted → exec (.resume tag) s = .next (s.replied tag .resume .badState [])) ∧
      (s.ctl.journal = .ready → (∀ g, s.ctl.geometry = some g → s.regions.staged.legal g = false) →
        exec (.checkpoint tag) s = .next (s.replied tag .checkpoint .tableInvalid [])) ∧
      (s.ctl.journal = .recoveryPending ∨ (s.ctl.journal = .recoveryFault ∧ s.ctl.clearPending = false) →
        (∀ g, s.ctl.geometry = some g → s.regions.staged.legal g = false) →
        exec (.adopt tag) s = .next (s.replied tag .adopt .tableInvalid [])) ∧
      (s.ctl.journal = .unformatted ∨ s.ctl.journal = .ready ∨
          (s.ctl.journal = .recoveryFault ∧ s.ctl.clearPending = true) →
        (Geometry.legal ⟨base.toNat, size.toNat⟩ = false →
          exec (.format tag base size) s = .next (s.replied tag (.format base size) .badArgument [])) ∧
        (Geometry.legal ⟨base.toNat, size.toNat⟩ = true → s.regions.staged.legal ⟨base.toNat, size.toNat⟩ = false →
          exec (.format tag base size) s = .next (s.replied tag (.format base size) .tableInvalid []))))

/-- An admitted CHECKPOINT or FORMAT raises the freeze and is in FREEZE while the classifier is not IDLE, in DRAIN
with the drain demand while a classified entry is queued, in SWEEP_WAIT while the inactive map is not CLEAN, and
otherwise in its anchor phase with the anchor's first half requested. The drain demand seals a FILLING bank beside
an EMPTY one. The model's own here: `sdo` records the bytes shifted out (assumption 14). -/
def Obligations.CheckpointBegins : Prop :=
  ∀ (tag : Byte) (kind : OpKind) (c : ServiceCommand) (args : Option Geometry) (g : Geometry) (s : State),
    s.opensOperations → s.regions.staged.legal g = true →
    ((c = .checkpoint ∧ kind = .checkpoint ∧ args = none ∧ s.ctl.geometry = some g ∧ s.ctl.journal = .ready) ∨
      (∃ base size : Word, c = .format base size ∧ kind = .format ∧ g = ⟨base.toNat, size.toNat⟩ ∧ args = some g ∧
        g.legal = true ∧ (s.ctl.journal = .unformatted ∨ s.ctl.journal = .ready ∨
          (s.ctl.journal = .recoveryFault ∧ s.ctl.clearPending = true)))) →
    ∃ t, exec (c.toInstr tag) s = .next t ∧
      t.ctl = { s.ctl with
        op := some kind, formatArgs := args, freeze := true,
        drain := if s.pwq.classifier = .idle then (∃ e ∈ s.pwq.entries, e.stage ≠ .unclassified : Bool) else s.ctl.drain,
        phase := t.ctl.phase, work := t.ctl.work } ∧
      (s.pwq.classifier ≠ .idle →
        t.ctl.phase = .freeze ∧ t.ctl.work = .rest ∧ t.writer = s.writer ∧ t.counters = s.counters) ∧
      (s.pwq.classifier = .idle →
        ((∃ e ∈ s.pwq.entries, e.stage ≠ .unclassified) → t.ctl.phase = .drain ∧ t.ctl.work = .rest) ∧
        ((∀ e ∈ s.pwq.entries, e.stage = .unclassified) →
          (s.maps.inactive.condition ≠ .clean → t.ctl.phase = .sweepWait ∧ t.ctl.work = .rest) ∧
          (s.maps.inactive.condition = .clean →
            ((kind = .checkpoint ∧ s.ctl.epochInEffect ≠ 0xFFFFFFFF) → t.ctl.phase = .anchor ∧
              t.ctl.work = .anchorWrite false ⟨if s.ctl.newest.isSome then s.ctl.generation + 1 else 1,
                s.ctl.epochInEffect + 1, .committed, g, s.regions.staged⟩) ∧
            ((kind = .checkpoint ∧ s.ctl.epochInEffect = 0xFFFFFFFF) → t.ctl.phase = .anchor0 ∧
              t.ctl.work = .anchorWrite false ⟨if s.ctl.newest.isSome then s.ctl.generation + 1 else 1,
                0, .committed, g, s.regions.staged⟩) ∧
            (kind = .format → t.ctl.phase = .anchor0 ∧
              t.ctl.work = .anchorWrite false ⟨if s.ctl.newest.isSome then s.ctl.generation + 1 else 1,
                0, .formatted, g, s.regions.staged⟩))) ∧
        ((∀ b : Bool, s.writer.bankIn .filling = some b → (s.writer.bank (!b)).state ≠ .empty) →
          t.writer = s.writer ∧ t.counters = s.counters) ∧
        ∀ b : Bool, s.writer.bankIn .filling = some b → (s.writer.bank (!b)).state = .empty →
          t.writer = s.writer.sealed b ∧ t.counters = (s.bump .flushes).counters) ∧
      t = { s with ctl := t.ctl, writer := t.writer, counters := t.counters }.replied tag c .accepted []

/-- An admitted ADOPT raises no freeze, and is in SWEEP_WAIT while the inactive map is not CLEAN and otherwise in
its anchor phase: ANCHOR with the next epoch and the staged table, or ANCHOR0 with epoch 0 and the active table. The
model's own here: `sdo` records the bytes shifted out (assumption 14). -/
def Obligations.AdoptBegins : Prop :=
  ∀ (tag : Byte) (g : Geometry) (s : State), s.opensOperations → s.ctl.geometry = some g →
    s.regions.staged.legal g = true →
    (s.ctl.journal = .recoveryPending ∨ (s.ctl.journal = .recoveryFault ∧ s.ctl.clearPending = false)) →
    let begun (p : Phase) (w : EpochWork) : State :=
      { s with ctl := { s.ctl with op := some .adopt, formatArgs := none, phase := p, work := w } }.replied tag .adopt
        .accepted []
    let generation : Word := if s.ctl.newest.isSome then s.ctl.generation + 1 else 1
    (s.maps.inactive.condition ≠ .clean → exec (.adopt tag) s = .next (begun .sweepWait .rest)) ∧
    (s.maps.inactive.condition = .clean →
      (s.ctl.epochInEffect ≠ 0xFFFFFFFF → exec (.adopt tag) s = .next (begun .anchor
        (.anchorWrite false ⟨generation, s.ctl.epochInEffect + 1, .adopted, g, s.regions.staged⟩))) ∧
      (s.ctl.epochInEffect = 0xFFFFFFFF → exec (.adopt tag) s = .next (begun .anchor0
        (.anchorWrite false ⟨generation, 0, .adopted, g, s.regions.active⟩))))

/-- An admitted ROLLBACK raises the freeze and frees every read slot. While a commit access is in flight it is in
QUIESCE and changes nothing else. Otherwise RESOLVE is entered in the same happening: JOURNALED entries and entries
whose place is closed are gone and counted, null writes are elided and counted, the other UNCLASSIFIED entries are
READY in the epoch in effect, a classification whose read is not in flight is dropped, and the banks are trimmed
unless a record write is in flight. RESOLVE ends at once where nothing holds it, in SCAN, WALK, SWEEP_WAIT or the
anchor phase. The model's own here: `sdo` records the bytes shifted out (assumption 14), and the departures and
reports of one happening come in queue order (assumption 25). -/
def Obligations.RollbackBegins : Prop :=
  ∀ (tag : Byte) (s : State), s.opensOperations →
    (s.ctl.journal = .ready ∨ s.ctl.journal = .halted ∨ s.ctl.journal = .recoveryPending ∨
      (s.ctl.journal = .recoveryFault ∧ s.ctl.clearPending = false)) →
    ∃ t, exec (.rollback tag) s = .next t ∧ t.service.response = ⟨tag, .accepted, []⟩ ∧
      t.ctl.op = some .rollback ∧ t.ctl.freeze = true ∧ t.ctl.journal = s.ctl.journal ∧
      t.faults.haltedCause = s.faults.haltedCause ∧ (∀ i : Fin 4, t.reads.slots[i] = .free) ∧
      t.mem = s.mem ∧ t.port = s.port ∧ t.regions = s.regions ∧ t.maps = s.maps ∧ t.host = s.host ∧
      ((∃ a, s.port = some ⟨.commitStage, a⟩) →
        t = { s with
          ctl := { s.ctl with op := some .rollback, formatArgs := none, phase := .quiesce, work := .rest, freeze := true },
          reads := t.reads }.replied tag .rollback .accepted []) ∧
      ((∀ a, s.port ≠ some ⟨.commitStage, a⟩) →
        t.pwq.entries = s.pwq.entries.filterMap (fun e =>
          match s.classOf e.granule with
          | .journaled _ _ _ => none
          | .unprotected =>
            if e.stage = .unclassified then
              if e.isNull then none
              else some { e with stage := .ready, classEpoch := some s.ctl.epochInEffect }
            else some e
          | _ => if e.stage = .unclassified then none else some e) ∧
        ((∀ a, s.port ≠ some ⟨.journalWriter, a⟩) →
          t.writer = { s.writer with
            bank0 := ⟨.empty, []⟩, bank1 := ⟨.empty, []⟩, nextSeq := s.writer.durable,
            coalesceTimer := none, coalesceDemand := false }) ∧
        ∃ r : State, t = { r with service := { r.service with response := ⟨tag, .accepted, []⟩ } } ∧
          { s with
            ctl := { s.ctl with op := some .rollback, formatArgs := none, freeze := true }
            reads := { s.reads with slots := t.reads.slots }
            service := { s.service with
              rxFrame := encodeRequest tag .rollback
              sdo := List.replicate (1 + (encodeRequest tag .rollback).length) 0 } }.ResolvesTo r)

/-- An admitted RESUME restarts a FLUSH_FAILED bank from its failed record, asks again for the read of a HELD
classifier and waits for the read of a READING one, and is in REISSUE while an item is outstanding. The model's own
here: `sdo` records the bytes shifted out (assumption 14). -/
def Obligations.ResumeBegins : Prop :=
  ∀ (tag : Byte) (s : State), s.opensOperations → s.ctl.journal = .halted →
    (s.writer.bankIn .flushFailed ≠ none ∨ s.pwq.classifier ≠ .idle) →
    ∃ t, exec (.resume tag) s = .next t ∧
      t.ctl = { s.ctl with
        op := some .resume, formatArgs := none, phase := .reissue, work := .rest,
        resumeFlush := if s.writer.bankIn .flushFailed = none then s.ctl.resumeFlush else .outstanding,
        resumeRead := if s.pwq.classifier = .idle then s.ctl.resumeRead else .outstanding } ∧
      (s.writer.bankIn .flushFailed = none → t.writer = s.writer) ∧
      (∀ b : Bool, s.writer.bankIn .flushFailed = some b →
        t.writer = s.writer.setBank b ⟨.flushing, (s.writer.bank b).records⟩) ∧
      (∀ k, s.pwq.classifier = .held k → t.pwq.classifier = .reading k) ∧
      ((∀ k, s.pwq.classifier ≠ .held k) → t.pwq.classifier = s.pwq.classifier) ∧
      t = { s with
        ctl := t.ctl, writer := t.writer, pwq := { s.pwq with classifier := t.pwq.classifier } }.replied tag .resume
          .accepted []

/-- PEEK_RECORD is answered BAD_STATE in UNFORMATTED and BAD_ARGUMENT at or above the capacity, and otherwise
PENDING, with the read of the slot's byte address requested, at once or behind those accepted before it while
a read is outstanding. The model's own here: `sdo` records the bytes shifted out (assumption 14), and more than one
peek may wait, first in, first out (assumption 19). -/
def Obligations.PeekDecided : Prop :=
  ∀ (tag : Byte) (slot : Word) (s : State), s.servesCommands →
    (s.ctl.journal = .unformatted →
      exec (.peekRecord tag slot) s = .next (s.replied tag (.peekRecord slot) .badState [])) ∧
    (s.ctl.journal ≠ .unformatted → s.capacity ≤ slot.toNat →
      exec (.peekRecord tag slot) s = .next (s.replied tag (.peekRecord slot) .badArgument [])) ∧
    (∀ g, s.ctl.geometry = some g → s.ctl.journal ≠ .unformatted → slot.toNat < g.size / 48 →
      (s.service.peekRead = none →
        exec (.peekRecord tag slot) s = .next
          ({ s with service := { s.service with peekRead := some ⟨slot.toNat, g.base + 48 * slot.toNat⟩ } }.replied
            tag (.peekRecord slot) .pending [])) ∧
      (s.service.peekRead ≠ none →
        exec (.peekRecord tag slot) s = .next
          ({ s with service := { s.service with
            peekWaiting := s.service.peekWaiting ++ [(⟨slot.toNat, g.base + 48 * slot.toNat⟩ : Peek)] } }.replied
              tag (.peekRecord slot) .pending [])))

/-- A response fetch shifts out a zero, then the response frame as the buffer stands, then zeros, as far as it is
clocked, and changes no state of the part. `sdo` is the model's record of the bytes shifted out (assumption 14). The
model's own here: `sdo` records the bytes shifted out (assumption 14). -/
def Obligations.ResponseFetched : Prop :=
  ∀ (clocked : Nat) (s : State), s.inReset = false →
    let r := s.service.response
    let head : List Byte := r.tag :: r.result.code :: byteOf r.payload.length :: r.payload
    ∃ bytes : List Byte, exec (.responseFetch clocked) s =
        .next { s with service := { s.service with sdo := 0 :: bytes } } ∧
      bytes.length = clocked ∧
      ∀ i < clocked, bytes[i]? = some ((head ++ [crc8 head]).getD i 0)

/-- A request period that carries the frame of a command is that command's row of the table: both answer one next
state, which out of RESET holds the frame's bytes as collected and, where a response is given, the frame's tag. The
model's own here: `sdo` records the bytes shifted out (assumption 14), and the row of a command stands for the
request period with its frame (assumption 20). -/
def Obligations.RequestFrameIsCommand : Prop :=
  ∀ (tag : Byte) (c : ServiceCommand) (s : State),
    ∃ t, exec (.requestFrame (0x01 :: encodeRequest tag c)) s = .next t ∧ exec (c.toInstr tag) s = .next t ∧
      (s.inReset = true → t = s) ∧
      (s.inReset = false → t.service.rxFrame = encodeRequest tag c ∧
        t.service.sdo = List.replicate (1 + (encodeRequest tag c).length) 0 ∧
        (s.service.response.result ≠ .pending → t.service.response.tag = tag) ∧
        (s.service.response.result = .pending → t.service.response = s.service.response))

/-- Every command is read back from its request frame, whatever bytes follow the frame in the period. -/
def Obligations.DecodeEncodeRequest : Prop :=
  ∀ (tag : Byte) (c : ServiceCommand) (more : List Byte),
    decodeRequest (encodeRequest tag c ++ more) = .command tag c

/-- Request periods that execute nothing: a frame that is not well formed, an unknown code and a payload length
other than the code's are answered, in STARTING too, and a request while a peek is PENDING is dropped. A period with
another type byte is ignored, and one with the type byte 0x02 is a response fetch. The model's own here: `sdo`
records the bytes shifted out (assumption 14). -/
def Obligations.FramesRefused : Prop :=
  ∀ (bytes : List Byte) (s : State), s.inReset = false →
    let rx := bytes.take 28
    let n := (rx.getD 2 0).toNat
    let wellFormed : Prop := 3 ≤ rx.length ∧ n ≤ 24 ∧ 4 + n ≤ rx.length ∧ rx[3 + n]? = some (crc8 (rx.take (3 + n)))
    let lengths : List (Nat × Nat) := [(0x01, 0), (0x02, 0), (0x03, 0), (0x04, 0), (0x05, 0), (0x06, 10), (0x07, 13),
      (0x08, 2), (0x10, 8), (0x11, 0), (0x12, 0), (0x13, 0), (0x14, 0), (0x20, 4), (0x21, 1)]
    let collected : State :=
      { s with service := { s.service with rxFrame := rx, sdo := List.replicate (1 + bytes.length) 0 } }
    let answered (r : Result) : State :=
      { collected with service := { collected.service with response := ⟨rx.getD 1 0, r, []⟩ } }
    (s.service.response.result = .pending →
      exec (.requestFrame (0x01 :: bytes)) s = .next (collected.bump .serviceDropped)) ∧
    (s.service.response.result ≠ .pending →
      (¬wellFormed → exec (.requestFrame (0x01 :: bytes)) s = .next (answered .frameError)) ∧
      (wellFormed → lengths.lookup (rx.getD 0 0).toNat = none →
        exec (.requestFrame (0x01 :: bytes)) s = .next (answered .unknownCommand)) ∧
      (wellFormed → ∀ k, lengths.lookup (rx.getD 0 0).toNat = some k → k ≠ n →
        exec (.requestFrame (0x01 :: bytes)) s = .next (answered .badArgument))) ∧
    (∀ type : Byte, type ≠ 0x01 → type ≠ 0x02 → exec (.requestFrame (type :: bytes)) s =
      .next { s with service := { s.service with sdo := List.replicate (1 + bytes.length) 0 } }) ∧
    exec (.requestFrame []) s = .next { s with service := { s.service with sdo := [] } } ∧
    exec (.requestFrame (0x02 :: bytes)) s = exec (.responseFetch bytes.length) s

/-- The answer to the peek read of a PENDING response becomes the response, with the 48 bytes and their verdict or
MEMORY_ERROR, and any other answer is dropped. Then the read of the peek that waits longest is requested. The
model's own here: a read's words come with its answer (assumption 5), and more than one peek may wait, first in, first
out (assumption 19). -/
def Obligations.PeekAnswered : Prop :=
  ∀ (a : Access) (k : Peek) (s : State), s.inReset = false → s.port = some ⟨.servicePort, a⟩ →
    s.service.peekRead = some k →
    (∀ seen : List Word,
      let words := answeredWords s.mem a.addr a.len seen
      (s.service.response.result = .pending → s.service.peekWaiting = [] →
        exec (.peekReadDone (.okay seen)) s = .next { s with
          port := none
          service := { s.service with
            peekRead := none
            response := ⟨s.service.response.tag, .ok,
              words.flatMap wordBytes ++ [(verdictOf words s.ctl.epochInEffect k.slot).code]⟩ } }) ∧
      (s.service.response.result ≠ .pending ∨ s.service.peekWaiting ≠ [] →
        exec (.peekReadDone (.okay seen)) s = .next { s with
          port := none
          service := { s.service with
            peekRead := s.service.peekWaiting.head?, peekWaiting := s.service.peekWaiting.tail } })) ∧
    (s.service.response.result = .pending → s.service.peekWaiting = [] →
      exec (.peekReadDone .error) s = .next ({ s with
        port := none
        service := { s.service with
          peekRead := none, response := ⟨s.service.response.tag, .memoryError, []⟩ } }.bump .memoryErrors)) ∧
    (s.service.response.result ≠ .pending ∨ s.service.peekWaiting ≠ [] →
      exec (.peekReadDone .error) s = .next ({ s with
        port := none
        service := { s.service with
          peekRead := s.service.peekWaiting.head?, peekWaiting := s.service.peekWaiting.tail } }.bump .memoryErrors))

/-! ### Memory port -/

/-- What stands requested of the memory port, owner by owner, and when nothing does: the accesses of the journal
writer, the classifier, the commit stage, the read slots and the service port, and the epoch controller's reads of
an anchor copy, writes and read-backs of the copy that is not the newest, clear writes, scan reads, walk reads and
restoring writes. The model's own here: a standing request is read from the state of its owner (assumption 13). -/
def Obligations.RequestsStanding : Prop :=
  ∀ s : State,
    (∀ b r rest, s.ctl.resolving = false → s.writer.bankIn .flushing = some b →
      (s.writer.bank b).records = r :: rest →
      s.requestOf .journalWriter = some (.write (s.areaBase + 48 * r.seq) (r.words.map fun w => (w, 0xF)))) ∧
    (s.ctl.op = some .rollback → s.ctl.phase = .resolve → s.requestOf .journalWriter = none) ∧
    (∀ k, s.pwq.classifier = .reading k → s.requestOf .classifier = some (.read (32 * k.granule) 8)) ∧
    (∀ e rest, s.pwq.entries = e :: rest → e.stage = .ready →
      ¬(s.ctl.op = some .rollback ∧ s.ctl.phase = .quiesce) →
      s.requestOf .commitStage = some (.write (32 * e.granule + 4 * e.first) e.data)) ∧
    (∀ e rest, s.pwq.entries = e :: rest →
      e.stage ≠ .ready ∨ (s.ctl.op = some .rollback ∧ s.ctl.phase = .quiesce) → s.requestOf .commitStage = none) ∧
    (∀ (i : Fin 4) k, s.reads.slots[i] = .fetchPending k →
      s.requestOf (.readSlot i) = some (.read k.addr.toNat k.len)) ∧
    (∀ i, s.ctl.work = .scanning i ∨ s.ctl.work = .walkReading i →
      s.requestOf .epochController = some (.read (s.areaBase + 48 * i) 12)) ∧
    (∀ i g m old, s.ctl.work = .walkWriting i g m old →
      s.requestOf .epochController = some (.write (32 * g) (old.map fun w => (w, 0xF)))) ∧
    (∀ copy first copyA, s.ctl.work = .anchorRead copy first copyA →
      s.requestOf .epochController = some (.read
        ((if copy = .a then 0 else 128) + if first = none then 0 else 64) 16)) ∧
    (let target : Nat := if s.ctl.newest = some .a then 128 else 0;
      (∀ second x, s.ctl.work = .anchorWrite second x → s.requestOf .epochController =
        some (.write (target + if second then 64 else 0) ((x.half second).map fun w => (w, 0xF)))) ∧
      ∀ first x, s.ctl.work = .readBack first x → s.requestOf .epochController =
        some (.read (target + if first = none then 0 else 64) 16)) ∧
    (∀ k, s.ctl.work = .clearing k → s.requestOf .epochController =
      some (.write (s.areaBase + 64 * k) (List.replicate 16 (0, 0xF)))) ∧
    (∀ g, s.ctl.geometry = some g → s.areaBase = g.base) ∧
    (∀ k, s.service.peekRead = some k → s.requestOf .servicePort = some (.read k.addr 12)) ∧
    (s.ctl.work = .rest → s.requestOf .epochController = none) ∧
    ((∀ b, s.writer.bankIn .flushing = some b → (s.writer.bank b).records = []) →
      s.requestOf .journalWriter = none) ∧
    ((∀ k, s.pwq.classifier ≠ .reading k) → s.requestOf .classifier = none) ∧
    (s.pwq.entries = [] → s.requestOf .commitStage = none) ∧
    (∀ i : Fin 4, (∀ k, s.reads.slots[i] ≠ .fetchPending k) → s.requestOf (.readSlot i) = none) ∧
    (s.service.peekRead = none → s.requestOf .servicePort = none)

/-- A grant gives an IDLE port to the first standing request in the order epoch controller, journal writer,
classifier, commit stage, read slots 0 to 3, service port, and its owner is told: the head becomes COMMITTING, and a
slot FETCHING with its stale flag clear. With the port BUSY or no request standing nothing happens, and a grant of
an access outside the address space, which R161 says the part never forms, is a fault. The model's own here: a grant
that cannot occur changes nothing (assumption 3), and that one outside the address space is a fault (assumption 15).
-/
def Obligations.GrantTaken : Prop :=
  ∀ s : State, s.inReset = false →
    let order : List Requester := [.epochController, .journalWriter, .classifier, .commitStage,
      .readSlot 0, .readSlot 1, .readSlot 2, .readSlot 3, .servicePort]
    (s.port ≠ none ∨ (∀ r, s.requestOf r = none) → exec .memoryGrant s = .next s) ∧
    ∀ (r : Requester) (a : Access), s.port = none → s.requestOf r = some a →
      (∀ q, order.idxOf q < order.idxOf r → s.requestOf q = none) →
      (a.addr + 4 * a.len ≤ 268435456 →
        (r ≠ .commitStage → (∀ i, r ≠ .readSlot i) → exec .memoryGrant s = .next { s with port := some ⟨r, a⟩ }) ∧
        (∀ e rest, r = .commitStage → s.pwq.entries = e :: rest → exec .memoryGrant s = .next { s with
          port := some ⟨r, a⟩, pwq := { s.pwq with entries := { e with stage := .committing } :: rest } }) ∧
        (∀ i k, r = .readSlot i → s.reads.slots[i] = .fetchPending k → exec .memoryGrant s = .next { s with
          port := some ⟨r, a⟩
          reads := { s.reads with slots := s.reads.slots.set i (.fetching k false) } })) ∧
      (268435456 < a.addr + 4 * a.len → exec .memoryGrant s = .fault .outsideAddressSpace)

/-! ### The write lane -/

/-- What the classifier makes of an entry that needs no record: it discards an entry whose place is closed with a
TABLE_DISCARD fault, elides a null write, and makes READY a write to an UNPROTECTED granule or to a JOURNALED
granule whose touch bit is set. The departure of an entry makes FETCH_PENDING each HAZARD_WAIT slot of its granule
when no entry of the granule remains, and changes nothing else. The model's own here: the taking is a happening of
its own (assumption 2). -/
def Obligations.TakeDisposed : Prop :=
  ∀ (before behind : List Entry) (e : Entry) (s : State), s.wouldTake before e behind →
    let gone := (s.withEntries (before ++ behind)).noteDeparture e.granule
    let ready := s.withEntries
      (before ++ { e with stage := .ready, classEpoch := some s.ctl.epochInEffect } :: behind)
    let null := ∀ w ∈ e.data, w.2 = 0
    ((s.classOf e.granule = .anchor ∨ s.classOf e.granule = .recordArea ∨ ∃ i, s.classOf e.granule = .frozen i) →
      exec .classifierTake s = .next ((gone.bump .writesDiscarded).report
        ⟨.tableDiscard, .classifier, some e.granule, some e.master, some s.ctl.epochInEffect, none⟩).quietTest) ∧
    (s.classOf e.granule = .unprotected →
      (null → exec .classifierTake s = .next (gone.bump .writesElided).quietTest) ∧
      (¬null → exec .classifierTake s = .next ready)) ∧
    (∀ i touch elide, s.classOf e.granule = .journaled i touch elide →
      (null → exec .classifierTake s = .next (gone.bump .writesElided).quietTest) ∧
      (¬null → s.maps.active.condition = .live → touch ∈ s.maps.active.setBits →
        exec .classifierTake s = .next ready)) ∧
    ∀ (granule : Nat) (u : State), ∃ v, u.noteDeparture granule = v ∧
      (∀ i : Fin 4, v.reads.slots[i] =
        match u.reads.slots[i] with
        | .hazardWait k =>
          if k.addr.toNat / 32 = granule ∧ ∀ x ∈ u.pwq.entries, x.granule ≠ granule then .fetchPending k
          else .hazardWait k
        | other => other) ∧
      v = { u with reads := { u.reads with slots := v.reads.slots } }

/-- What the classifier makes of an entry that needs a record: with room in the journal and in a bank it asks for
the old data, and otherwise it leaves the entry, reporting a full journal once per epoch. The model's own here: the
taking is a happening of its own (assumption 2). -/
def Obligations.TakeRecordPath : Prop :=
  ∀ (before behind : List Entry) (e : Entry) (s : State), s.wouldTake before e behind →
    ∀ i touch elide, s.classOf e.granule = .journaled i touch elide → (∃ w ∈ e.data, w.2 ≠ 0) →
      (s.maps.active.condition ≠ .live ∨ touch ∉ s.maps.active.setBits) →
      (s.writer.nextSeq < s.capacity →
        (((∃ b, s.writer.bankIn .filling = some b ∧ (s.writer.bank b).records.length < 16) ∨
            (s.writer.bankIn .filling = none ∧ s.writer.bankIn .empty ≠ none)) →
          exec .classifierTake s = .next { s with pwq := {
            entries := before ++ { e with
              stage := .classifying, classEpoch := some s.ctl.epochInEffect, region := some i } :: behind
            classifier := .reading ⟨e.granule, e.master, i, touch, elide⟩ } }) ∧
        (((∃ b, s.writer.bankIn .filling = some b ∧ 16 ≤ (s.writer.bank b).records.length) ∨
            (s.writer.bankIn .filling = none ∧ s.writer.bankIn .empty = none)) →
          exec .classifierTake s = .next s)) ∧
      (s.capacity ≤ s.writer.nextSeq →
        (s.writer.fullArmed = true → exec .classifierTake s = .next { s with
          writer := { s.writer with fullArmed := false }
          service := { s.service with causes := s.service.causes ||| 0x08 } }) ∧
        (s.writer.fullArmed = false → exec .classifierTake s = .next s))

/-- The old data of an entry arrive: with the region's elide flag set and every enabled byte equal to its old byte
the entry is elided; otherwise its record takes the next sequence, its touch bit is set and the entry waits on the
record. The record goes to the FILLING bank, and where there is none to bank 0 after RESET and then to the bank not
sealed last. The touch bit alone is set in a LIVE active map. The model's own here: a read's words come with its
answer (assumption 5). -/
def Obligations.OldDataOkay : Prop :=
  ∀ (before behind : List Entry) (e : Entry) (k : Classification) (seen : List Word) (s : State),
    s.inReset = false → s.port = some ⟨.classifier, .read (32 * k.granule) 8⟩ → s.pwq.classifier = .reading k →
    s.pwq.entries = before ++ e :: behind → e.stage = .classifying → (∀ x ∈ before, x.stage ≠ .classifying) →
    let old := answeredWords s.mem (32 * k.granule) 8 seen
    let unchanged := ∀ j w o, e.data[j]? = some w → old[e.first + j]? = some o →
      ∀ lane < 4, w.2.getLsbD lane = true → laneByte w.1 lane = laneByte o lane
    (k.elide = true → unchanged →
      exec (.oldDataReadDone (.okay seen)) s = .next
        (((({ s with port := none, pwq := ⟨before ++ behind, .idle⟩ }.noteDeparture e.granule).bump
          .writesElided).readItemDone true).settle)) ∧
    (k.elide = false ∨ ¬unchanged →
      exec (.oldDataReadDone (.okay seen)) s = .next
        (((({ s with
          port := none
          pwq := ⟨before ++ { e with stage := .waiting, recordSeq := some s.writer.nextSeq } :: behind, .idle⟩
          maps := s.maps.setTouch k.touch
          writer := s.writer.placed
            ⟨s.ctl.epochInEffect, s.writer.nextSeq, k.granule, k.region, k.master, old⟩ }).bump
          .recordsCreated).readItemDone true).settle)) ∧
    (∀ (b : Bool) (w : JournalWriter) (r : JournalRecord),
      w.bankIn .filling = some b ∨ (w.bankIn .filling = none ∧ w.lastSealed = none ∧ b = false) ∨
        (w.bankIn .filling = none ∧ w.lastSealed = some (!b)) →
      w.placed r = { w.setBank b ⟨.filling, (w.bank b).records ++ [r]⟩ with nextSeq := w.nextSeq + 1 }) ∧
    ∀ (m : TouchMaps) (touch : Nat), ∃ n, m.setTouch touch = n ∧ n.activeIndex = m.activeIndex ∧
      n.inactive = m.inactive ∧ n.active.condition = m.active.condition ∧
      (m.active.condition = .live → ∀ j, j ∈ n.active.setBits ↔ j = touch ∨ j ∈ m.active.setBits) ∧
      (m.active.condition ≠ .live → n = m)

/-- A failed old-data read holds the classification and reports OLD_READ, and where RESOLVE has discarded the entry
the answer is dropped, but for the report of an ERROR. The model's own here: a read's words come with its answer
(assumption 5). -/
def Obligations.OldDataDropped : Prop :=
  ∀ (k : Classification) (seen : List Word) (s : State), s.inReset = false →
    s.port = some ⟨.classifier, .read (32 * k.granule) 8⟩ → s.pwq.classifier = .reading k →
    let fault : FaultReport :=
      ⟨.oldRead, .classifier, some k.granule, some k.master, some s.ctl.epochInEffect, some s.writer.nextSeq⟩
    ((∃ e ∈ s.pwq.entries, e.stage = .classifying) →
      exec (.oldDataReadDone .error) s = .next
        (((({ s with port := none, pwq := { s.pwq with classifier := .held k } }.bump .memoryErrors).report
          fault).readItemDone false).settle)) ∧
    ((∀ e ∈ s.pwq.entries, e.stage ≠ .classifying) →
      exec (.oldDataReadDone (.okay seen)) s = .next
        (({ s with port := none, pwq := { s.pwq with classifier := .idle } }.readItemDone true).settle) ∧
      exec (.oldDataReadDone .error) s = .next
        (((({ s with port := none, pwq := { s.pwq with classifier := .idle } }.bump .memoryErrors).report
          fault).readItemDone false).settle))

/-- The tests that follow a change on the write path, in their order: a WAITING head whose record is durable becomes
READY, a FILLING bank is sealed beside an EMPTY bank when a seal condition holds, the coalesce timer starts for a
head that waits on the FILLING bank, the phase of the operation goes on or ends, and PFQUIET is asserted when
everything is quiet. FREEZE ends with the classifier IDLE, DRAIN with every entry UNCLASSIFIED, QUIESCE with no
commit in flight, RESOLVE with the queue empty, the trim done and the classifier IDLE, and REISSUE with its last
item. The model's own here: the order of the tests within one happening (assumption 17). -/
def Obligations.WritePathTests : Prop :=
  ∀ s : State,
    (∀ e rest q, s.pwq.entries = e :: rest → e.stage = .waiting → e.recordSeq = some q →
      (q < s.writer.durable → s.examineHead =
        { s with pwq := { s.pwq with entries := { e with stage := .ready } :: rest } }) ∧
      (s.writer.durable ≤ q → s.examineHead = s)) ∧
    (∀ e rest, s.pwq.entries = e :: rest → e.stage ≠ .waiting → s.examineHead = s) ∧
    (∀ b, s.writer.bankIn .filling = some b →
      ((s.writer.bank (!b)).state = .empty → s.ctl.resolving = false →
        (s.writer.flushThreshold ≤ (s.writer.bank b).records.length ∨ s.writer.coalesceDemand = true ∨
          s.ctl.drain = true ∨ s.faults.hold = true ∨ (s.writer.bank b).records.length = 16) →
        s.sealTest = { s with
          writer := { s.writer.setBank b ⟨.flushing, (s.writer.bank b).records⟩ with
            lastSealed := some b, coalesceTimer := none, coalesceDemand := false }
          counters := s.counters.set 10 (satInc s.counters[10]) }) ∧
      ((s.writer.bank (!b)).state ≠ .empty ∨ s.ctl.resolving = true ∨
        ((s.writer.bank b).records.length < s.writer.flushThreshold ∧ s.writer.coalesceDemand = false ∧
          s.ctl.drain = false ∧ s.faults.hold = false ∧ (s.writer.bank b).records.length ≠ 16) →
        s.sealTest = s)) ∧
    (s.writer.bankIn .filling = none → s.sealTest = s) ∧
    (∀ e rest q b r, s.pwq.entries = e :: rest → e.stage = .waiting → e.recordSeq = some q →
      s.writer.bankIn .filling = some b → r ∈ (s.writer.bank b).records → r.seq = q →
      s.writer.coalesceTimer = none → s.writer.coalesceDemand = false →
      (s.writer.coalesceTime ≠ 0 →
        s.coalesceTest = { s with writer := { s.writer with coalesceTimer := some s.writer.coalesceTime } }) ∧
      (s.writer.coalesceTime = 0 →
        s.coalesceTest = { s with writer := { s.writer with coalesceDemand := true } }.sealTest)) ∧
    (s.writer.coalesceTimer ≠ none ∨ s.writer.coalesceDemand = true ∨ s.writer.bankIn .filling = none ∨
        s.pwq.entries = [] ∨
        (∃ e rest, s.pwq.entries = e :: rest ∧
          (e.stage ≠ .waiting ∨ e.recordSeq = none ∨
            ∃ q b, e.recordSeq = some q ∧ s.writer.bankIn .filling = some b ∧
              ∀ r ∈ (s.writer.bank b).records, r.seq ≠ q)) →
      s.coalesceTest = s) ∧
    s.settle = s.examineHead.sealTest.coalesceTest.advance.quietTest ∧
    (s.inReset = false → s.faults.hold = true → s.pwq.entries = [] → s.writer.bank0.state = .empty →
      s.writer.bank1.state = .empty → s.ctl.op = none → s.faults.pfquiet = false →
      s.quietTest = { s with
        faults := { s.faults with pfquiet := true }
        service := { s.service with causes := s.service.causes ||| 0x40 } }) ∧
    (s.inReset = true ∨ s.faults.hold = false ∨ s.pwq.entries ≠ [] ∨ s.writer.bank0.state ≠ .empty ∨
      s.writer.bank1.state ≠ .empty ∨ s.ctl.op ≠ none ∨ s.faults.pfquiet = true → s.quietTest = s) ∧
    (s.ctl.phase = .freeze →
      (s.pwq.classifier ≠ .idle → s.advance = s) ∧
      (s.pwq.classifier = .idle →
        { s with ctl := { s.ctl with phase := .drain, work := .rest, drain := true } }.sealTest.DrainsTo s.advance)) ∧
    (s.ctl.phase = .drain → s.DrainsTo s.advance) ∧
    (s.ctl.phase = .quiesce →
      ((∃ a, s.port = some ⟨.commitStage, a⟩) → s.advance = s) ∧
      ((∀ a, s.port ≠ some ⟨.commitStage, a⟩) → s.ResolvesTo s.advance)) ∧
    (s.ctl.phase = .resolve → s.ResolveEndsTo s.advance) ∧
    (s.ctl.phase = .reissue →
      let stands := s.writer.bankIn .flushFailed ≠ none ∨ ∃ k, s.pwq.classifier = .held k;
      (s.ctl.resumeFlush = .outstanding ∨ s.ctl.resumeRead = .outstanding → s.advance = s) ∧
      (s.ctl.resumeFlush ≠ .outstanding → s.ctl.resumeRead ≠ .outstanding → ∀ kind, s.ctl.op = some kind →
        (s.ctl.resumeFlush = .failed ∨ s.ctl.resumeRead = .failed →
          s.advance = s.opEnded kind .failed s.ctl.journal) ∧
        (s.ctl.resumeFlush ≠ .failed → s.ctl.resumeRead ≠ .failed →
          (stands → s.advance = s.opEnded kind .success s.ctl.journal) ∧
          (¬stands → s.advance = { s.opEnded kind .success .ready with
            faults := { s.faults with haltedCause := none } })))) ∧
    (s.ctl.phase ∉ [Phase.freeze, .drain, .quiesce, .resolve, .reissue] → s.advance = s) ∧
    ∀ ok : Bool,
      let ended : ResumeItem := if ok then .succeeded else .failed
      s.flushItemDone ok = { s with ctl := { s.ctl with
        resumeFlush := if s.ctl.resumeFlush = .outstanding then ended else s.ctl.resumeFlush } } ∧
      s.readItemDone ok = { s with ctl := { s.ctl with
        resumeRead := if s.ctl.resumeRead = .outstanding then ended else s.ctl.resumeRead } }

/-- The two kinds of timer: the coalesce timer's expiry seals the FILLING bank beside an EMPTY one or leaves a
demand, and a slot's expiry frees a READY or FAILED slot. The expiry of a timer that does not run is no happening.
The model's own here: the expiry comes as a command (assumption 11), and the expiry of a timer that does not run
changes nothing (assumption 3). -/
def Obligations.TimersExpire : Prop :=
  ∀ s : State, s.inReset = false →
    (s.writer.coalesceTimer ≠ none →
      (∀ b, s.writer.bankIn .filling = some b → (s.writer.bank (!b)).state = .empty → s.ctl.resolving = false →
        exec .coalesceTimerExpiry s = .next ({ s with
          writer := { s.writer.setBank b ⟨.flushing, (s.writer.bank b).records⟩ with
            lastSealed := some b, coalesceTimer := none, coalesceDemand := false } }.bump .flushes)) ∧
      ((∀ b, s.writer.bankIn .filling = some b → (s.writer.bank (!b)).state ≠ .empty) →
        exec .coalesceTimerExpiry s = .next { s with
          writer := { s.writer with coalesceTimer := none, coalesceDemand := true } })) ∧
    (s.writer.coalesceTimer = none → exec .coalesceTimerExpiry s = .next s) ∧
    ∀ i : Fin 4,
      (((∃ k words timer, s.reads.slots[i] = .ready k words timer) ∨ ∃ k timer, s.reads.slots[i] = .failed k timer) →
        exec (.slotDiscardTimerExpiry i) s = .next
          ({ s with reads := { s.reads with slots := s.reads.slots.set i .free } }.bump .slotsDiscarded)) ∧
      ((∀ k words timer, s.reads.slots[i] ≠ .ready k words timer) → (∀ k timer, s.reads.slots[i] ≠ .failed k timer) →
        exec (.slotDiscardTimerExpiry i) s = .next s)

/-- A record write answered OKAY makes its record durable and takes it from the bank, which is EMPTY after its last,
and the warning test follows: an armed warning is set when the level in effect is not 0 and the durable count has
reached it. A record write answered ERROR makes the bank FLUSH_FAILED with its records kept and reports FLUSH. The
model's own here: the bytes a failed or abandoned write leaves come with it (assumption 7). -/
def Obligations.RecordWritten : Prop :=
  ∀ (addr : Nat) (words : List LaneWord) (b : Bool) (r : JournalRecord) (rest : List JournalRecord) (s : State),
    s.inReset = false → s.port = some ⟨.journalWriter, .write addr words⟩ → s.writer.bankIn .flushing = some b →
    (s.writer.bank b).records = r :: rest →
    let done : State := { s with
      port := none
      mem := writeWords s.mem addr words
      writer := { s.writer.setBank b (if rest = [] then ⟨.empty, []⟩ else ⟨.flushing, rest⟩) with
        durable := s.writer.durable + 1 } }
    (rest ≠ [] → exec (.recordWriteDone .okay) s = .next done.warnTest.settle) ∧
    (rest = [] → exec (.recordWriteDone .okay) s = .next (done.warnTest.flushItemDone true).settle) ∧
    (∀ left : List Byte, exec (.recordWriteDone (.error left)) s = .next
      (((({ s with
        port := none
        mem := writeBytes s.mem addr (left.take (4 * words.length))
        writer := s.writer.setBank b ⟨.flushFailed, r :: rest⟩ }.bump .memoryErrors).report
        ⟨.flush, .journalWriter, some r.granule, some r.master, some s.ctl.epochInEffect, some r.seq⟩).flushItemDone
        false).settle)) ∧
    ∀ u : State,
      let level : Nat := match u.ctl.geometry, u.writer.warnSetting with
        | none, _ => 0
        | some _, some n => n
        | some g, none => g.size / 48 * 3 / 4
      (u.writer.warnArmed = true → level ≠ 0 → level ≤ u.writer.durable → u.warnTest = { u with
        writer := { u.writer with warnArmed := false }
        service := { u.service with causes := u.service.causes ||| 0x04 } }) ∧
      (u.writer.warnArmed = false ∨ level = 0 ∨ u.writer.durable < level → u.warnTest = u)

/-- A commit write answered OKAY performs the head entry, and one answered ERROR drops it with a DATA_WRITE fault.
Either way the entry leaves, and only the bytes the access addressed can change. The departure makes FETCH_PENDING
each HAZARD_WAIT slot of its granule when no entry of the granule remains, and changes nothing else. The model's own
here: the bytes a failed or abandoned write leaves come with it (assumption 7). -/
def Obligations.CommitAnswered : Prop :=
  ∀ (e : Entry) (rest : List Entry) (s : State), s.inReset = false → s.pwq.entries = e :: rest →
    e.stage = .committing → s.port = some ⟨.commitStage, .write (32 * e.granule + 4 * e.first) e.data⟩ →
    exec (.commitWriteDone .okay) s = .next
      (((({ s with
        port := none
        mem := writeWords s.mem (32 * e.granule + 4 * e.first) e.data
        pwq := { s.pwq with entries := rest } }).noteDeparture e.granule).bump .writesPerformed).settle) ∧
    (∀ left : List Byte, exec (.commitWriteDone (.error left)) s = .next
      (((({ s with
        port := none
        mem := writeBytes s.mem (32 * e.granule + 4 * e.first) (left.take (4 * e.data.length))
        pwq := { s.pwq with entries := rest } }).noteDeparture e.granule).bump .memoryErrors).report
        ⟨.dataWrite, .commitStage, some e.granule, some e.master, e.classEpoch, e.recordSeq⟩).settle) ∧
    (∀ (ans : WriteAnswer) (t : State), exec (.commitWriteDone ans) s = .next t → ∀ a : Nat,
      (a < 32 * e.granule + 4 * e.first ∨ 32 * e.granule + 4 * e.first + 4 * e.data.length ≤ a) →
      readByte t.mem a = readByte s.mem a) ∧
    ∀ (granule : Nat) (u : State), ∃ v, u.noteDeparture granule = v ∧
      (∀ i : Fin 4, v.reads.slots[i] =
        match u.reads.slots[i] with
        | .hazardWait k =>
          if k.addr.toNat / 32 = granule ∧ ∀ x ∈ u.pwq.entries, x.granule ≠ granule then .fetchPending k
          else .hazardWait k
        | other => other) ∧
      v = { u with reads := { u.reads with slots := v.reads.slots } }

/-! ### Fetches -/

/-- A fetch answered OKAY makes its slot READY with the words, or where it is stale sends it back by the hazard
test. One answered ERROR makes it FAILED and reports FETCH. The answer to a slot that is no longer FETCHING is
dropped. The model's own here: a read's words come with its answer (assumption 5). -/
def Obligations.FetchAnswered : Prop :=
  ∀ (i : Fin 4) (a : Access) (seen : List Word) (s : State), s.inReset = false → s.port = some ⟨.readSlot i, a⟩ →
    let put (sl : Slot) : State :=
      { s with port := none, reads := { s.reads with slots := s.reads.slots.set i sl } }
    (∀ k, s.reads.slots[i] = .fetching k false →
      exec (.fetchDone (.okay seen)) s =
        .next (put (.ready k (answeredWords s.mem a.addr a.len seen) s.reads.discardTime))) ∧
    (∀ k, s.reads.slots[i] = .fetching k true →
      ((∃ e ∈ s.pwq.entries, e.granule = k.granule) →
        exec (.fetchDone (.okay seen)) s = .next (put (.hazardWait k))) ∧
      ((∀ e ∈ s.pwq.entries, e.granule ≠ k.granule) →
        exec (.fetchDone (.okay seen)) s = .next (put (.fetchPending k)))) ∧
    (∀ k stale, s.reads.slots[i] = .fetching k stale →
      exec (.fetchDone .error) s = .next (((put (.failed k s.reads.discardTime)).bump .memoryErrors).report
        ⟨.fetch, .readSlots, some (k.addr.toNat / 32), some k.master, none, some i.val⟩)) ∧
    ((∀ k stale, s.reads.slots[i] ≠ .fetching k stale) →
      exec (.fetchDone (.okay seen)) s = .next { s with port := none } ∧
      exec (.fetchDone .error) s = .next ({ s with port := none }.bump .memoryErrors))

/-! ### Touch maps and the epoch controller -/

/-- The end of a sweep makes its map LIVE or CLEAN by its role, with no bit set, and the engine takes the other map
where it is DIRTY. SWEEP_WAIT ends, in the operation's anchor phase, when the inactive map is CLEAN, and MAP_SWEEP
when both maps are swept. The model's own here: the end comes as a command (assumption 11). -/
def Obligations.SweepEnds : Prop :=
  ∀ (i : Bool) (s : State), s.inReset = false → (s.maps.map i).condition = .sweeping →
    (i = true → s.maps.map0.condition ≠ .sweeping) →
    (∀ kind g, s.ctl.op = some kind → s.operationGeometry kind = some g →
      s.enterAnchorPhase = s.anchorBegun kind g) ∧
    ∃ m : TouchMaps, m.activeIndex = s.maps.activeIndex ∧
      m.map i = ⟨[], if i = s.maps.activeIndex then .live else .clean⟩ ∧
      m.map (!i) = (if (s.maps.map (!i)).condition = .dirty then ⟨[], .sweeping⟩ else s.maps.map (!i)) ∧
      (s.ctl.phase ≠ .sweepWait → s.ctl.phase ≠ .mapSweep → exec .sweepEnd s = .next { s with maps := m }) ∧
      (s.ctl.phase = .sweepWait →
        (m.inactive.condition ≠ .clean → exec .sweepEnd s = .next { s with maps := m }) ∧
        (m.inactive.condition = .clean → exec .sweepEnd s = .next { s with maps := m }.enterAnchorPhase)) ∧
      (s.ctl.phase = .mapSweep →
        (m.active.condition = .live → m.inactive.condition = .clean → exec .sweepEnd s = .next { s with
          maps := m, ctl := { s.ctl with phase := .anchorRead, work := .anchorRead .a none none } }) ∧
        (m.active.condition ≠ .live ∨ m.inactive.condition ≠ .clean →
          exec .sweepEnd s = .next { s with maps := m }))

/-- Start-up reads copy A and then copy B, each in two halves, and a copy whose read returns ERROR is invalid. With
no valid anchor it ends UNFORMATTED. Otherwise it loads the newest valid anchor with its geometry and table, and
goes to CLEAR where that carries epoch 0 and to SCAN from slot 0 where it does not. The model's own here: a read's
words come with its answer (assumption 5), and the response of a peek whose read is not yet requested
becomes BAD_STATE too (assumption 19). -/
def Obligations.StartUpReads : Prop :=
  ∀ (a : Access) (copy : Copy) (first : Option (List Word)) (copyA : Option Anchor) (seen : List Word) (s : State),
    s.inReset = false → s.port = some ⟨.epochController, a⟩ → s.ctl.work = .anchorRead copy first copyA →
    let words := answeredWords s.mem a.addr a.len seen
    let waiting (w : EpochWork) : State := { s with port := none, ctl := { s.ctl with work := w } }
    (first = none → exec (.anchorReadDone (.okay seen)) s = .next (waiting (.anchorRead copy (some words) copyA))) ∧
    (∀ ws, first = some ws → copy = .a →
      exec (.anchorReadDone (.okay seen)) s = .next (waiting (.anchorRead .b none (anchorOfWords (ws ++ words))))) ∧
    (copy = .a → exec (.anchorReadDone .error) s =
      .next ((waiting (.anchorRead .b none none)).bump .memoryErrors)) ∧
    (copy = .b →
      (∀ ws, first = some ws → exec (.anchorReadDone (.okay seen)) s =
        .next ({ s with port := none }.selectAnchor (newestOf copyA (anchorOfWords (ws ++ words))))) ∧
      exec (.anchorReadDone .error) s =
        .next (({ s with port := none }.bump .memoryErrors).selectAnchor (newestOf copyA none))) ∧
    ∀ u : State,
      u.selectAnchor none = { u with
        ctl := { u.ctl with journal := .unformatted, phase := .noPhase, work := .rest, startCycle := none }
        service := { u.service with causes := u.service.causes ||| 0x80 ||| 0x20 } } ∧
      ∀ (held : Copy) (x : Anchor), ∃ t, u.selectAnchor (some (held, x)) = t ∧ u.TakesGeometry t x.geometry ∧
        t = { u with
          ctl := { u.ctl with
            newest := some held, generation := x.generation, epoch := x.epoch, geometry := some x.geometry
            phase := if x.epoch = 0 then .clear else .scan
            work := if x.epoch = 0 then .clearing 0 else .scanning 0
            startCycle := if x.epoch = 0 then some ⟨x.ending, false⟩ else u.ctl.startCycle }
          regions := ⟨x.table, x.table⟩
          writer := { u.writer with warnSetting := t.writer.warnSetting }
          reads := t.reads
          service := t.service }

/-- The answers to an anchor write: the second half follows the first, the second half's OKAY acknowledges the
anchor, its ERROR begins a read-back of the copy, and the first half's ERROR fails the write with an ANCHOR_WRITE
fault. A read-back that finds the copy whole with the generation written acknowledges it, one that does not fails
it, and an ERROR begins a new one. A failed write ends start-up in RECOVERY_FAULT, fails a clear cycle in ANCHOR1,
leaves the journal state to a CHECKPOINT or FORMAT, and leaves RECOVERY_FAULT to an ADOPT and, with the active map
retired, to a ROLLBACK. The model's own here: a read's words come with its answer (assumption 5), and the bytes a
failed or abandoned write leaves come with it (assumption 7). -/
def Obligations.AnchorAnswered : Prop :=
  ∀ (addr : Nat) (words : List LaneWord) (a : Access) (x : Anchor) (s : State), s.inReset = false →
    let fault : FaultReport := ⟨.anchorWrite, .epochController, none, none, some x.epoch, none⟩
    let waiting (w : EpochWork) : State := { s with port := none, ctl := { s.ctl with work := w } }
    let written (w : EpochWork) : State := { waiting w with mem := writeWords s.mem addr words }
    (s.port = some ⟨.epochController, .write addr words⟩ →
      (s.ctl.work = .anchorWrite false x →
        exec (.anchorWriteDone .okay) s = .next (written (.anchorWrite true x)).quietTest ∧
        ∀ left : List Byte, exec (.anchorWriteDone (.error left)) s = .next
          (({ { s with port := none } with mem := writeBytes s.mem addr (left.take (4 * words.length)) }.bump
            .memoryErrors).report fault).anchorFailed.quietTest) ∧
      (s.ctl.work = .anchorWrite true x →
        exec (.anchorWriteDone .okay) s = .next ((written (.anchorWrite true x)).anchorAcknowledged x).quietTest ∧
        ∀ left : List Byte, exec (.anchorWriteDone (.error left)) s = .next
          ({ waiting (.readBack none x) with
            mem := writeBytes s.mem addr (left.take (4 * words.length)) }.bump .memoryErrors).quietTest)) ∧
    (∀ (first : Option (List Word)) (seen : List Word), s.port = some ⟨.epochController, a⟩ →
      s.ctl.work = .readBack first x →
      let got := answeredWords s.mem a.addr a.len seen
      exec (.anchorReadBackDone .error) s = .next ((waiting (.readBack none x)).bump .memoryErrors).quietTest ∧
      (first = none →
        exec (.anchorReadBackDone (.okay seen)) s = .next (waiting (.readBack (some got) x)).quietTest) ∧
      ∀ ws, first = some ws →
        ((∃ y, anchorOfWords (ws ++ got) = some y ∧ y.generation = x.generation) →
          exec (.anchorReadBackDone (.okay seen)) s = .next (({ s with port := none }).anchorAcknowledged x).quietTest) ∧
        ((∀ y, anchorOfWords (ws ++ got) = some y → y.generation ≠ x.generation) →
          exec (.anchorReadBackDone (.okay seen)) s =
            .next ((({ s with port := none }).report fault).anchorFailed).quietTest)) ∧
    ∀ u : State,
      (u.ctl.journal = .starting ∨ u.ctl.phase = .anchor1 → u.CycleFailsTo u.anchorFailed) ∧
      (u.ctl.journal ≠ .starting → u.ctl.phase ≠ .anchor1 →
        (∀ kind, u.ctl.op = some kind → (kind = .checkpoint ∨ kind = .format) →
          u.anchorFailed = u.opEnded kind .failed u.ctl.journal) ∧
        (u.ctl.op = some .adopt → u.anchorFailed = u.opEnded .adopt .failed .recoveryFault) ∧
        (u.ctl.op = some .rollback → u.FailsTo u.anchorFailed))

/-- What an acknowledged anchor does. In ANCHOR, and in ANCHOR1 of an operation, it is the switch point of the
operation. In ANCHOR0 it sets both counts to 0, activates the staged table of a CHECKPOINT or FORMAT and the new
geometry of a FORMAT, and begins CLEAR. In start-up, the anchor of RESTART, or the ANCHOR1 in its place, flips the
maps and ends STARTING in READY, and the ANCHOR1 of an interrupted clear cycle does so without a flip. The model's
own here: the response of a peek whose read is not yet requested becomes BAD_STATE too (assumption 19). -/
def Obligations.SwitchPoint : Prop :=
  (∀ (addr : Nat) (words : List LaneWord) (x : Anchor) (kind : OpKind) (s : State), s.inReset = false →
    s.port = some ⟨.epochController, .write addr words⟩ → s.ctl.work = .anchorWrite true x → s.ctl.phase = .anchor →
    s.ctl.op = some kind → (kind = .checkpoint ∨ kind = .adopt ∨ kind = .rollback) →
    s.maps.inactive.condition = .clean → s.maps.active.condition = .live →
    ∃ t, exec (.anchorWriteDone .okay) s = .next t ∧
      t.mem = writeWords s.mem addr words ∧ t.port = none ∧
      t.ctl.newest = some (match s.ctl.newest with | some .a => .b | _ => .a) ∧
      t.ctl.generation = x.generation ∧ t.ctl.epochInEffect = x.epoch ∧ t.ctl.geometry = s.ctl.geometry ∧
      t.regions = (if kind = .rollback then s.regions else ⟨s.regions.staged, s.regions.staged⟩) ∧
      t.writer = { s.writer with nextSeq := 0, durable := 0, warnArmed := true, fullArmed := true } ∧
      t.maps.activeIndex = (!s.maps.activeIndex) ∧
      t.maps.active = { s.maps.inactive with condition := .live } ∧ t.maps.inactive = ⟨[], .sweeping⟩ ∧
      t.pwq.classifier = s.pwq.classifier ∧
      t.pwq.entries = s.pwq.entries.map (fun e =>
        if e.stage = .ready ∧ e.recordSeq = none ∧ e.classEpoch ≠ some x.epoch then
          { e with stage := .unclassified, classEpoch := none, region := none }
        else e) ∧
      t.ctl.countUnknown = false ∧ t.ctl.walkRemaining = 0 ∧ t.ctl.journal = .ready ∧ t.faults.haltedCause = none ∧
      t.ctl.op = none ∧ t.ctl.phase = .noPhase ∧ t.ctl.freeze = false ∧ t.ctl.drain = false ∧ t.ctl.work = .rest ∧
      t.ctl.lastOp = some ⟨kind, .success, x.epoch⟩ ∧ t.hasCause .opDone = true ∧
      t.counter .epochsOpened = satInc (s.counter .epochsOpened) ∧
      t.reads = s.reads ∧ t.host = s.host ∧ t.service.response = s.service.response) ∧
  ∀ (x : Anchor) (u : State),
    let acked : State := { u with ctl := { u.ctl with
      newest := some (if u.ctl.newest = some .a then .b else .a), generation := x.generation, epoch := x.epoch } }
    let activated (v : State) : State := { v with regions := ⟨v.regions.staged, v.regions.staged⟩ }
    let clearing (v : State) : State := { v with
      ctl := { v.ctl with phase := .clear, work := .clearing 0, countUnknown := false }
      writer := { v.writer with nextSeq := 0, durable := 0 } }
    (u.ctl.phase = .anchor0 →
      (u.ctl.op = some .checkpoint → u.anchorAcknowledged x = clearing (activated acked)) ∧
      (u.ctl.op ≠ some .checkpoint → u.ctl.op ≠ some .format → u.anchorAcknowledged x = clearing acked) ∧
      (∀ g, u.ctl.op = some .format → u.ctl.formatArgs = some g → ∃ v, u.anchorAcknowledged x = v ∧
        u.TakesGeometry v g ∧
        v = clearing { activated acked with
          ctl := { acked.ctl with geometry := some g }
          writer := { u.writer with warnSetting := v.writer.warnSetting }
          reads := v.reads
          service := v.service })) ∧
    (u.ctl.phase = .anchor1 → u.ctl.journal ≠ .starting → ∀ kind, u.ctl.op = some kind →
      u.maps.inactive.condition = .clean → u.maps.active.condition = .live →
      (if kind = .adopt then activated acked else acked).SwitchesTo (u.anchorAcknowledged x) kind) ∧
    (u.ctl.journal = .starting → u.ctl.op = none →
      (∀ ending, u.ctl.phase = .anchor1 → u.ctl.startCycle = some ⟨ending, false⟩ →
        u.anchorAcknowledged x = acked.epochStarted u.maps) ∧
      (u.ctl.phase = .restart ∨ (u.ctl.phase = .anchor1 ∧ ∃ ending, u.ctl.startCycle = some ⟨ending, true⟩) →
        u.maps.inactive.condition = .clean → u.maps.active.condition = .live →
        ∃ m, u.maps.FlipsTo m ∧ u.anchorAcknowledged x = acked.epochStarted m))

/-- The answers to a clear access: the next 64 bytes follow an OKAY, ANCHOR1 with epoch 1 follows the last, and an
ERROR reports CLEAR_WRITE and fails the cycle in RECOVERY_FAULT. Start-up's cycle ends STARTING. An operation's ends
FAILED, discards and counts the UNCLASSIFIED entries of JOURNALED granules, and retires the active map from READY or
HALTED. The model's own here: the bytes a failed or abandoned write leaves come with it (assumption 7). -/
def Obligations.ClearAnswered : Prop :=
  ∀ (addr k : Nat) (words : List LaneWord) (g : Geometry) (s : State), s.inReset = false →
    s.port = some ⟨.epochController, .write addr words⟩ → s.ctl.work = .clearing k → s.ctl.geometry = some g →
    let written (m : Mem) (p : Phase) (w : EpochWork) : State :=
      { s with port := none, mem := m, ctl := { s.ctl with phase := p, work := w } }
    (k + 1 < g.size / 64 → exec (.clearWriteDone .okay) s =
      .next (written (writeWords s.mem addr words) s.ctl.phase (.clearing (k + 1))).quietTest) ∧
    (g.size / 64 ≤ k + 1 → exec (.clearWriteDone .okay) s =
      .next (written (writeWords s.mem addr words) .anchor1
        (.anchorWrite false (s.buildAnchor .anchor1 1))).quietTest) ∧
    ∀ left : List Byte, ∃ t, exec (.clearWriteDone (.error left)) s = .next t ∧
      t = (((written (writeBytes s.mem addr (left.take (4 * words.length))) s.ctl.phase (.clearing k)).bump
        .memoryErrors).report
        ⟨.clearWrite, .epochController, some (addr / 32), none, none, none⟩).cycleFailed.quietTest ∧
      t.ctl.journal = .recoveryFault ∧ t.ctl.newest = s.ctl.newest ∧ t.ctl.epoch = s.ctl.epoch ∧
      t.regions = s.regions ∧ t.ctl.geometry = s.ctl.geometry ∧
      (s.ctl.journal ≠ .starting → s.ctl.op ≠ none →
        t.ctl.op = none ∧ t.ctl.freeze = false ∧
        ∀ e ∈ t.pwq.entries, e.stage = .unclassified → (t.classOf e.granule).isJournaled = false) ∧
      ∀ u : State, u.CycleFailsTo u.cycleFailed ∧
        let anchor1 (ending : Ending) (table : Table) : Anchor :=
          ⟨if u.ctl.newest.isSome then u.ctl.generation + 1 else 1, 1, ending, g, table⟩
        (∀ ending restarting, u.ctl.op = none → u.ctl.startCycle = some ⟨ending, restarting⟩ →
          u.ctl.geometry = some g → u.buildAnchor .anchor1 1 = anchor1 ending u.regions.active) ∧
        ∀ kind, u.ctl.op = some kind → u.operationGeometry kind = some g →
          (kind = .checkpoint → u.buildAnchor .anchor1 1 = anchor1 .committed u.regions.staged) ∧
          (kind = .format → u.buildAnchor .anchor1 1 = anchor1 .formatted u.regions.staged) ∧
          (kind = .adopt → u.buildAnchor .anchor1 1 = anchor1 .adopted u.regions.staged) ∧
          (kind = .rollback → u.buildAnchor .anchor1 1 = anchor1 .rolledBack u.regions.active)

/-- The answers to a scan read: the scan goes on past a VALID slot, ends at the first other verdict or at the
capacity with the count of VALID slots in both journal counts, and fails on an ERROR with the count read so far. A
ROLLBACK's scan is followed by WALK from the slot below the count. Start-up's ends in RECOVERY_PENDING, and at a
count of 0 it is followed by the RESTARTED anchor of the next epoch, or by ANCHOR0 where the epoch wraps. The
model's own here: a read's words come with its answer (assumption 5). -/
def Obligations.ScanAnswered : Prop :=
  ∀ (a : Access) (i : Nat) (seen : List Word) (s : State), s.inReset = false →
    s.port = some ⟨.epochController, a⟩ → s.ctl.work = .scanning i →
    let verdict := verdictOf (answeredWords s.mem a.addr a.len seen) s.ctl.epochInEffect i
    let counted (d : Nat) (unknown : Bool) : State := { s with
      port := none
      writer := { s.writer with nextSeq := d, durable := d }
      ctl := { s.ctl with countUnknown := unknown } }
    (verdict = .valid → i + 1 < s.capacity → exec (.scanReadDone (.okay seen)) s =
      .next { s with port := none, ctl := { s.ctl with work := .scanning (i + 1) } }.quietTest) ∧
    (∀ d, (verdict = .valid ∧ s.capacity ≤ i + 1 ∧ d = i + 1) ∨ (verdict ≠ .valid ∧ d = i) →
      (s.ctl.journal ≠ .starting →
        exec (.scanReadDone (.okay seen)) s = .next (counted d false).enterWalk.quietTest) ∧
      (s.ctl.journal = .starting →
        (d ≠ 0 → exec (.scanReadDone (.okay seen)) s =
          .next ((counted d false).endStart .recoveryPending).quietTest) ∧
        (d = 0 → exec (.scanReadDone (.okay seen)) s = .next (counted 0 false).enterRestart.quietTest))) ∧
    (∃ t, exec (.scanReadDone .error) s = .next t ∧ t.writer.nextSeq = i ∧ t.writer.durable = i ∧
      t.ctl.countUnknown = true ∧ t.ctl.journal = .recoveryFault ∧ t.port = none ∧ t.mem = s.mem ∧
      t.counter .memoryErrors = satInc (s.counter .memoryErrors) ∧
      (s.faults.record = none → t.faults.record =
        some ⟨.scanRead, .epochController, none, none, some s.ctl.epochInEffect, some i⟩)) ∧
    (∀ u : State, u.WalksTo u.enterWalk) ∧
    (∀ (g : Geometry) (u : State), u.ctl.op = none → u.ctl.startCycle = none → u.ctl.geometry = some g →
      let begun (p : Phase) (epoch : Word) (cycle : Option StartCycle) : State :=
        { u with ctl := { u.ctl with
          phase := p, startCycle := cycle
          work := .anchorWrite false ⟨if u.ctl.newest.isSome then u.ctl.generation + 1 else 1, epoch, .restarted, g,
            u.regions.active⟩ } }
      (u.ctl.epochInEffect ≠ 0xFFFFFFFF → u.enterRestart = begun .restart (u.ctl.epochInEffect + 1) none) ∧
      (u.ctl.epochInEffect = 0xFFFFFFFF → u.enterRestart = begun .anchor0 0 (some ⟨.restarted, true⟩))) ∧
    ∀ u : State, u.endStart .recoveryPending = u.startEnded .recoveryPending

/-- The answers of the walk: a VALID record's old words are written back to the granule its origin names, the slot
below follows that write's OKAY, and SWEEP_WAIT follows the last. An ERROR or a bad record fails the ROLLBACK with
its fault: the record count is unknown, the journal state is RECOVERY_FAULT, the active map is retired from READY or
HALTED, and the counts and walk remaining stand as they were. The model's own here: a read's words come with its
answer (assumption 5), and the bytes a failed or abandoned write leaves come with it (assumption 7). -/
def Obligations.WalkAnswered : Prop :=
  ∀ (addr i : Nat) (words : List LaneWord) (a : Access) (seen : List Word) (s : State), s.inReset = false →
    let got := answeredWords s.mem a.addr a.len seen
    let waiting (w : EpochWork) : State := { s with port := none, ctl := { s.ctl with work := w } }
    (s.port = some ⟨.epochController, a⟩ → s.ctl.work = .walkReading i →
      (∀ ep sq origin check old, got = ep :: sq :: origin :: check :: old →
        verdictOf got s.ctl.epochInEffect i = .valid →
        exec (.walkReadDone (.okay seen)) s = .next
          (waiting (.walkWriting i (origin.toNat % 2 ^ 23) ((origin >>> 26).setWidth 3) old)).quietTest) ∧
      (verdictOf got s.ctl.epochInEffect i ≠ .valid →
        exec (.walkReadDone (.okay seen)) s = .next (((waiting s.ctl.work).report
          ⟨.recordCheck, .epochController, none, none, some s.ctl.epochInEffect, some i⟩).withCountUnknown
          true).failIntoRecovery.quietTest) ∧
      exec (.walkReadDone .error) s = .next ((((waiting s.ctl.work).bump .memoryErrors).report
        ⟨.walkRead, .epochController, none, none, some s.ctl.epochInEffect, some i⟩).withCountUnknown
        true).failIntoRecovery.quietTest) ∧
    (∀ granule master old, s.port = some ⟨.epochController, .write addr words⟩ →
      s.ctl.work = .walkWriting i granule master old →
      let restored : State := { s with
        port := none, mem := writeWords s.mem addr words
        ctl := { s.ctl with walkRemaining := s.ctl.walkRemaining - 1 } }
      (2 ≤ s.ctl.walkRemaining → exec (.walkWriteDone .okay) s = .next
        { restored with ctl := { restored.ctl with work := .walkReading (i - 1) } }.quietTest) ∧
      (s.ctl.walkRemaining ≤ 1 → exec (.walkWriteDone .okay) s = .next restored.enterSweepWait.quietTest) ∧
      ∀ left : List Byte, exec (.walkWriteDone (.error left)) s = .next
        (((({ waiting s.ctl.work with
          mem := writeBytes s.mem addr (left.take (4 * words.length)) }.bump .memoryErrors).report
          ⟨.walkWrite, .epochController, some granule, some master, some s.ctl.epochInEffect,
            some i⟩).withCountUnknown true).failIntoRecovery).quietTest) ∧
    ∀ u : State, u.FailsTo u.failIntoRecovery ∧ u.SweepWaitsTo u.enterSweepWait ∧
      ∀ b : Bool, u.withCountUnknown b = { u with ctl := { u.ctl with countUnknown := b } }

/-- A fault report fills an empty record or counts as a later fault, and sets FAULT. One of kind OLD_READ or FLUSH
in READY with no ROLLBACK in progress makes the journal state HALTED with its cause and sets HALTED, and fails a
CHECKPOINT or FORMAT in FREEZE or DRAIN. -/
def Obligations.FaultTaken : Prop :=
  ∀ (r : FaultReport) (s : State),
    let taken : State := { s with
      faults := match s.faults.record with
        | none => { s.faults with record := some r }
        | some _ => { s.faults with laterFaults := min (s.faults.laterFaults + 1) 65535 }
      service := { s.service with causes := s.service.causes ||| 0x02 } }
    let cause : HaltCause := if r.kind = .oldRead then .oldRead else .flush
    let halted : State := { taken with
      ctl := { s.ctl with journal := .halted }
      faults := { taken.faults with haltedCause := some cause }
      service := { s.service with causes := s.service.causes ||| 0x02 ||| 0x10 } }
    let halts := (r.kind = .oldRead ∨ r.kind = .flush) ∧ s.ctl.journal = .ready ∧ s.ctl.op ≠ some .rollback
    let fails := (s.ctl.op = some .checkpoint ∨ s.ctl.op = some .format) ∧
      (s.ctl.phase = .freeze ∨ s.ctl.phase = .drain)
    (¬halts → s.report r = taken) ∧
    (halts → ¬fails → s.report r = halted) ∧
    (halts → fails → ∃ t, s.report r = t ∧ t.ctl.journal = .halted ∧ t.ctl.op = none ∧ t.ctl.phase = .noPhase ∧
      t.ctl.freeze = false ∧ t.ctl.drain = false ∧
      t.ctl.lastOp = some ⟨if s.ctl.op = some .format then .format else .checkpoint, .failed, s.ctl.epochInEffect⟩ ∧
      t.faults = halted.faults ∧ t.service = { s.service with causes := s.service.causes ||| 0x02 ||| 0x10 ||| 0x01 } ∧
      t.pwq = s.pwq ∧ t.writer = s.writer ∧ t.maps = s.maps ∧ t.regions = s.regions ∧ t.counters = s.counters ∧
      t.mem = s.mem)

/-! ### Formats -/

/-- An anchor whose geometry and table are legal is read back whole from the two halves in which it is written. -/
def Obligations.AnchorRoundTrip : Prop :=
  ∀ a : Anchor, a.geometry.legal = true → a.table.legal a.geometry = true →
    (a.half false).length = 16 ∧ (a.half true).length = 16 ∧ anchorOfWords (a.half false ++ a.half true) = some a

/-- A record's stored words read VALID for its own slot and epoch and no other, and its origin word gives its
granule, region index and master back. -/
def Obligations.RecordRoundTrip : Prop :=
  ∀ (r : JournalRecord) (epoch : Word) (slot : Nat), r.epoch ≠ 0 → r.granule < 8388608 → r.seq < 2 ^ 32 →
    (verdictOf r.words epoch slot = .valid ↔ r.epoch = epoch ∧ r.seq = slot) ∧
    (r.epoch ≠ epoch → verdictOf r.words epoch slot = .epoch) ∧
    originGranule (r.words.getD 2 0) = r.granule ∧ originMaster (r.words.getD 2 0) = r.master ∧
    (r.region < 8 → ((r.words.getD 2 0).toNat / 2 ^ 23) % 8 = r.region) ∧
    r.words.drop 4 = r.old

/-- The choice of the newest valid anchor, the copy written next and the generation it carries. -/
def Obligations.NewestAnchorChosen : Prop :=
  (∀ a b : Word, newer a b = true ↔
    1 ≤ (a.toNat + (2 ^ 32 - b.toNat)) % 2 ^ 32 ∧ (a.toNat + (2 ^ 32 - b.toNat)) % 2 ^ 32 ≤ 2147483647) ∧
  newestOf none none = none ∧
  (∀ x, newestOf (some x) none = some (.a, x)) ∧ (∀ y, newestOf none (some y) = some (.b, y)) ∧
  (∀ x y, newer y.generation x.generation = true → newestOf (some x) (some y) = some (.b, y)) ∧
  (∀ x y, newer y.generation x.generation = false → newestOf (some x) (some y) = some (.a, x)) ∧
  (∀ a b : Word, a - b = 0x80000000 → newer a b = false ∧ newer b a = false) ∧
  (∀ x y : Anchor, newer x.generation y.generation = true ∨ x.generation = y.generation ∨
      x.generation - y.generation = 0x80000000 → newer y.generation x.generation = false) ∧
  anchorTarget (some .a) = .b ∧ anchorTarget (some .b) = .a ∧
  ∀ (s : State) (p : Phase) (e : Word) (held : Copy), s.ctl.newest = some held →
    (s.buildAnchor p e).generation = s.ctl.generation + 1

/-! ### Invariants -/

/-- Every step keeps the working memory in canonical form. The model's own here: the form of memory and what an
unlisted byte reads as (assumption 4). -/
def Obligations.MemoryKept : Prop :=
  ∀ s t : State, s.MemoryCanonical → step s = .next t → t.MemoryCanonical

/-- Every step keeps the posted write queue at 16 entries or fewer. -/
def Obligations.QueueStaysBounded : Prop :=
  ∀ s t : State, s.QueueBounded → step s = .next t → t.QueueBounded

/-- Every step keeps every READY slot, and every slot on the way to READY, free of a queued entry of its granule,
and so no READY slot ever holds data for a granule that has an entry in the queue. -/
def Obligations.ReadySlotsFresh : Prop :=
  (∀ s t : State, s.SlotsFresh → step s = .next t → t.SlotsFresh) ∧ State.reset.SlotsFresh ∧
  ∀ s : State, s.SlotsFresh → ∀ (i : Fin 4) k words timer, s.reads.slots[i] = .ready k words timer →
    ∀ e ∈ s.pwq.entries, e.granule ≠ granuleOf k.addr.toNat

/-- PFQUIET, once asserted, stays true of the part: every step keeps the hold, the empty queue, the empty banks and
the absence of an operation for as long as PFQUIET stays asserted. -/
def Obligations.QuietStaysTrue : Prop :=
  ∀ s t : State, s.QuietHolds → step s = .next t → t.QuietHolds

/-- Every step keeps the controller at rest while no long operation is in progress, and start-up alone in STARTING.
-/
def Obligations.ControllerStaysSound : Prop :=
  ∀ s t : State, s.ControllerSound → step s = .next t → t.ControllerSound

/-- The state after RESET has the invariants that every step keeps. -/
def Obligations.ResetMeetsInvariants : Prop :=
  State.reset.MemoryCanonical ∧ State.reset.QueueBounded ∧ State.reset.SlotsFresh ∧ State.reset.QuietHolds ∧
    State.reset.ControllerSound
end

