-- ==== Sys2Proof/Laws/State.lean ====
section
/-! SUPPORT. What each small update of the state leaves and sets: one lemma for each update and field, true by `rfl`, so
that no proof unfolds a record update. -/

namespace Sys2Proof.Machine

variable (s : State)

@[simp] theorem State.withEntries_inReset (es : List Entry) : (s.withEntries es).inReset = s.inReset := rfl
@[simp] theorem State.withEntries_host (es : List Entry) : (s.withEntries es).host = s.host := rfl
@[simp] theorem State.withEntries_regions (es : List Entry) : (s.withEntries es).regions = s.regions := rfl
@[simp] theorem State.withEntries_pwq (es : List Entry) : (s.withEntries es).pwq = { s.pwq with entries := es } := rfl
@[simp] theorem State.withEntries_maps (es : List Entry) : (s.withEntries es).maps = s.maps := rfl
@[simp] theorem State.withEntries_writer (es : List Entry) : (s.withEntries es).writer = s.writer := rfl
@[simp] theorem State.withEntries_reads (es : List Entry) : (s.withEntries es).reads = s.reads := rfl
@[simp] theorem State.withEntries_port (es : List Entry) : (s.withEntries es).port = s.port := rfl
@[simp] theorem State.withEntries_ctl (es : List Entry) : (s.withEntries es).ctl = s.ctl := rfl
@[simp] theorem State.withEntries_faults (es : List Entry) : (s.withEntries es).faults = s.faults := rfl
@[simp] theorem State.withEntries_service (es : List Entry) : (s.withEntries es).service = s.service := rfl
@[simp] theorem State.withEntries_counters (es : List Entry) : (s.withEntries es).counters = s.counters := rfl
@[simp] theorem State.withEntries_mem (es : List Entry) : (s.withEntries es).mem = s.mem := rfl
@[simp] theorem State.withEntries_pending (es : List Entry) : (s.withEntries es).pending = s.pending := rfl

@[simp] theorem State.withClassifier_inReset (c : Classifier) : (s.withClassifier c).inReset = s.inReset := rfl
@[simp] theorem State.withClassifier_host (c : Classifier) : (s.withClassifier c).host = s.host := rfl
@[simp] theorem State.withClassifier_regions (c : Classifier) : (s.withClassifier c).regions = s.regions := rfl
@[simp] theorem State.withClassifier_pwq (c : Classifier) : (s.withClassifier c).pwq = { s.pwq with classifier := c } := rfl
@[simp] theorem State.withClassifier_maps (c : Classifier) : (s.withClassifier c).maps = s.maps := rfl
@[simp] theorem State.withClassifier_writer (c : Classifier) : (s.withClassifier c).writer = s.writer := rfl
@[simp] theorem State.withClassifier_reads (c : Classifier) : (s.withClassifier c).reads = s.reads := rfl
@[simp] theorem State.withClassifier_port (c : Classifier) : (s.withClassifier c).port = s.port := rfl
@[simp] theorem State.withClassifier_ctl (c : Classifier) : (s.withClassifier c).ctl = s.ctl := rfl
@[simp] theorem State.withClassifier_faults (c : Classifier) : (s.withClassifier c).faults = s.faults := rfl
@[simp] theorem State.withClassifier_service (c : Classifier) : (s.withClassifier c).service = s.service := rfl
@[simp] theorem State.withClassifier_counters (c : Classifier) : (s.withClassifier c).counters = s.counters := rfl
@[simp] theorem State.withClassifier_mem (c : Classifier) : (s.withClassifier c).mem = s.mem := rfl
@[simp] theorem State.withClassifier_pending (c : Classifier) : (s.withClassifier c).pending = s.pending := rfl

@[simp] theorem State.withJournal_inReset (j : JournalState) : (s.withJournal j).inReset = s.inReset := rfl
@[simp] theorem State.withJournal_host (j : JournalState) : (s.withJournal j).host = s.host := rfl
@[simp] theorem State.withJournal_regions (j : JournalState) : (s.withJournal j).regions = s.regions := rfl
@[simp] theorem State.withJournal_pwq (j : JournalState) : (s.withJournal j).pwq = s.pwq := rfl
@[simp] theorem State.withJournal_maps (j : JournalState) : (s.withJournal j).maps = s.maps := rfl
@[simp] theorem State.withJournal_writer (j : JournalState) : (s.withJournal j).writer = s.writer := rfl
@[simp] theorem State.withJournal_reads (j : JournalState) : (s.withJournal j).reads = s.reads := rfl
@[simp] theorem State.withJournal_port (j : JournalState) : (s.withJournal j).port = s.port := rfl
@[simp] theorem State.withJournal_ctl (j : JournalState) : (s.withJournal j).ctl = { s.ctl with journal := j } := rfl
@[simp] theorem State.withJournal_faults (j : JournalState) : (s.withJournal j).faults = s.faults := rfl
@[simp] theorem State.withJournal_service (j : JournalState) : (s.withJournal j).service = s.service := rfl
@[simp] theorem State.withJournal_counters (j : JournalState) : (s.withJournal j).counters = s.counters := rfl
@[simp] theorem State.withJournal_mem (j : JournalState) : (s.withJournal j).mem = s.mem := rfl
@[simp] theorem State.withJournal_pending (j : JournalState) : (s.withJournal j).pending = s.pending := rfl

@[simp] theorem State.withPhase_inReset (p : Phase) (w : EpochWork) : (s.withPhase p w).inReset = s.inReset := rfl
@[simp] theorem State.withPhase_host (p : Phase) (w : EpochWork) : (s.withPhase p w).host = s.host := rfl
@[simp] theorem State.withPhase_regions (p : Phase) (w : EpochWork) : (s.withPhase p w).regions = s.regions := rfl
@[simp] theorem State.withPhase_pwq (p : Phase) (w : EpochWork) : (s.withPhase p w).pwq = s.pwq := rfl
@[simp] theorem State.withPhase_maps (p : Phase) (w : EpochWork) : (s.withPhase p w).maps = s.maps := rfl
@[simp] theorem State.withPhase_writer (p : Phase) (w : EpochWork) : (s.withPhase p w).writer = s.writer := rfl
@[simp] theorem State.withPhase_reads (p : Phase) (w : EpochWork) : (s.withPhase p w).reads = s.reads := rfl
@[simp] theorem State.withPhase_port (p : Phase) (w : EpochWork) : (s.withPhase p w).port = s.port := rfl
@[simp] theorem State.withPhase_ctl (p : Phase) (w : EpochWork) : (s.withPhase p w).ctl = { s.ctl with phase := p, work := w } := rfl
@[simp] theorem State.withPhase_faults (p : Phase) (w : EpochWork) : (s.withPhase p w).faults = s.faults := rfl
@[simp] theorem State.withPhase_service (p : Phase) (w : EpochWork) : (s.withPhase p w).service = s.service := rfl
@[simp] theorem State.withPhase_counters (p : Phase) (w : EpochWork) : (s.withPhase p w).counters = s.counters := rfl
@[simp] theorem State.withPhase_mem (p : Phase) (w : EpochWork) : (s.withPhase p w).mem = s.mem := rfl
@[simp] theorem State.withPhase_pending (p : Phase) (w : EpochWork) : (s.withPhase p w).pending = s.pending := rfl

@[simp] theorem State.withHaltedCause_inReset (c : Option HaltCause) : (s.withHaltedCause c).inReset = s.inReset := rfl
@[simp] theorem State.withHaltedCause_host (c : Option HaltCause) : (s.withHaltedCause c).host = s.host := rfl
@[simp] theorem State.withHaltedCause_regions (c : Option HaltCause) : (s.withHaltedCause c).regions = s.regions := rfl
@[simp] theorem State.withHaltedCause_pwq (c : Option HaltCause) : (s.withHaltedCause c).pwq = s.pwq := rfl
@[simp] theorem State.withHaltedCause_maps (c : Option HaltCause) : (s.withHaltedCause c).maps = s.maps := rfl
@[simp] theorem State.withHaltedCause_writer (c : Option HaltCause) : (s.withHaltedCause c).writer = s.writer := rfl
@[simp] theorem State.withHaltedCause_reads (c : Option HaltCause) : (s.withHaltedCause c).reads = s.reads := rfl
@[simp] theorem State.withHaltedCause_port (c : Option HaltCause) : (s.withHaltedCause c).port = s.port := rfl
@[simp] theorem State.withHaltedCause_ctl (c : Option HaltCause) : (s.withHaltedCause c).ctl = s.ctl := rfl
@[simp] theorem State.withHaltedCause_faults (c : Option HaltCause) : (s.withHaltedCause c).faults = { s.faults with haltedCause := c } := rfl
@[simp] theorem State.withHaltedCause_service (c : Option HaltCause) : (s.withHaltedCause c).service = s.service := rfl
@[simp] theorem State.withHaltedCause_counters (c : Option HaltCause) : (s.withHaltedCause c).counters = s.counters := rfl
@[simp] theorem State.withHaltedCause_mem (c : Option HaltCause) : (s.withHaltedCause c).mem = s.mem := rfl
@[simp] theorem State.withHaltedCause_pending (c : Option HaltCause) : (s.withHaltedCause c).pending = s.pending := rfl

@[simp] theorem State.withWriter_inReset (w : JournalWriter) : (s.withWriter w).inReset = s.inReset := rfl
@[simp] theorem State.withWriter_host (w : JournalWriter) : (s.withWriter w).host = s.host := rfl
@[simp] theorem State.withWriter_regions (w : JournalWriter) : (s.withWriter w).regions = s.regions := rfl
@[simp] theorem State.withWriter_pwq (w : JournalWriter) : (s.withWriter w).pwq = s.pwq := rfl
@[simp] theorem State.withWriter_maps (w : JournalWriter) : (s.withWriter w).maps = s.maps := rfl
@[simp] theorem State.withWriter_writer (w : JournalWriter) : (s.withWriter w).writer = w := rfl
@[simp] theorem State.withWriter_reads (w : JournalWriter) : (s.withWriter w).reads = s.reads := rfl
@[simp] theorem State.withWriter_port (w : JournalWriter) : (s.withWriter w).port = s.port := rfl
@[simp] theorem State.withWriter_ctl (w : JournalWriter) : (s.withWriter w).ctl = s.ctl := rfl
@[simp] theorem State.withWriter_faults (w : JournalWriter) : (s.withWriter w).faults = s.faults := rfl
@[simp] theorem State.withWriter_service (w : JournalWriter) : (s.withWriter w).service = s.service := rfl
@[simp] theorem State.withWriter_counters (w : JournalWriter) : (s.withWriter w).counters = s.counters := rfl
@[simp] theorem State.withWriter_mem (w : JournalWriter) : (s.withWriter w).mem = s.mem := rfl
@[simp] theorem State.withWriter_pending (w : JournalWriter) : (s.withWriter w).pending = s.pending := rfl

@[simp] theorem State.withMaps_inReset (m : TouchMaps) : (s.withMaps m).inReset = s.inReset := rfl
@[simp] theorem State.withMaps_host (m : TouchMaps) : (s.withMaps m).host = s.host := rfl
@[simp] theorem State.withMaps_regions (m : TouchMaps) : (s.withMaps m).regions = s.regions := rfl
@[simp] theorem State.withMaps_pwq (m : TouchMaps) : (s.withMaps m).pwq = s.pwq := rfl
@[simp] theorem State.withMaps_maps (m : TouchMaps) : (s.withMaps m).maps = m := rfl
@[simp] theorem State.withMaps_writer (m : TouchMaps) : (s.withMaps m).writer = s.writer := rfl
@[simp] theorem State.withMaps_reads (m : TouchMaps) : (s.withMaps m).reads = s.reads := rfl
@[simp] theorem State.withMaps_port (m : TouchMaps) : (s.withMaps m).port = s.port := rfl
@[simp] theorem State.withMaps_ctl (m : TouchMaps) : (s.withMaps m).ctl = s.ctl := rfl
@[simp] theorem State.withMaps_faults (m : TouchMaps) : (s.withMaps m).faults = s.faults := rfl
@[simp] theorem State.withMaps_service (m : TouchMaps) : (s.withMaps m).service = s.service := rfl
@[simp] theorem State.withMaps_counters (m : TouchMaps) : (s.withMaps m).counters = s.counters := rfl
@[simp] theorem State.withMaps_mem (m : TouchMaps) : (s.withMaps m).mem = s.mem := rfl
@[simp] theorem State.withMaps_pending (m : TouchMaps) : (s.withMaps m).pending = s.pending := rfl

@[simp] theorem State.withReads_inReset (r : ReadSlots) : (s.withReads r).inReset = s.inReset := rfl
@[simp] theorem State.withReads_host (r : ReadSlots) : (s.withReads r).host = s.host := rfl
@[simp] theorem State.withReads_regions (r : ReadSlots) : (s.withReads r).regions = s.regions := rfl
@[simp] theorem State.withReads_pwq (r : ReadSlots) : (s.withReads r).pwq = s.pwq := rfl
@[simp] theorem State.withReads_maps (r : ReadSlots) : (s.withReads r).maps = s.maps := rfl
@[simp] theorem State.withReads_writer (r : ReadSlots) : (s.withReads r).writer = s.writer := rfl
@[simp] theorem State.withReads_reads (r : ReadSlots) : (s.withReads r).reads = r := rfl
@[simp] theorem State.withReads_port (r : ReadSlots) : (s.withReads r).port = s.port := rfl
@[simp] theorem State.withReads_ctl (r : ReadSlots) : (s.withReads r).ctl = s.ctl := rfl
@[simp] theorem State.withReads_faults (r : ReadSlots) : (s.withReads r).faults = s.faults := rfl
@[simp] theorem State.withReads_service (r : ReadSlots) : (s.withReads r).service = s.service := rfl
@[simp] theorem State.withReads_counters (r : ReadSlots) : (s.withReads r).counters = s.counters := rfl
@[simp] theorem State.withReads_mem (r : ReadSlots) : (s.withReads r).mem = s.mem := rfl
@[simp] theorem State.withReads_pending (r : ReadSlots) : (s.withReads r).pending = s.pending := rfl

@[simp] theorem State.withPort_inReset (p : Option InFlight) : (s.withPort p).inReset = s.inReset := rfl
@[simp] theorem State.withPort_host (p : Option InFlight) : (s.withPort p).host = s.host := rfl
@[simp] theorem State.withPort_regions (p : Option InFlight) : (s.withPort p).regions = s.regions := rfl
@[simp] theorem State.withPort_pwq (p : Option InFlight) : (s.withPort p).pwq = s.pwq := rfl
@[simp] theorem State.withPort_maps (p : Option InFlight) : (s.withPort p).maps = s.maps := rfl
@[simp] theorem State.withPort_writer (p : Option InFlight) : (s.withPort p).writer = s.writer := rfl
@[simp] theorem State.withPort_reads (p : Option InFlight) : (s.withPort p).reads = s.reads := rfl
@[simp] theorem State.withPort_port (p : Option InFlight) : (s.withPort p).port = p := rfl
@[simp] theorem State.withPort_ctl (p : Option InFlight) : (s.withPort p).ctl = s.ctl := rfl
@[simp] theorem State.withPort_faults (p : Option InFlight) : (s.withPort p).faults = s.faults := rfl
@[simp] theorem State.withPort_service (p : Option InFlight) : (s.withPort p).service = s.service := rfl
@[simp] theorem State.withPort_counters (p : Option InFlight) : (s.withPort p).counters = s.counters := rfl
@[simp] theorem State.withPort_mem (p : Option InFlight) : (s.withPort p).mem = s.mem := rfl
@[simp] theorem State.withPort_pending (p : Option InFlight) : (s.withPort p).pending = s.pending := rfl

@[simp] theorem State.withMem_inReset (m : Mem) : (s.withMem m).inReset = s.inReset := rfl
@[simp] theorem State.withMem_host (m : Mem) : (s.withMem m).host = s.host := rfl
@[simp] theorem State.withMem_regions (m : Mem) : (s.withMem m).regions = s.regions := rfl
@[simp] theorem State.withMem_pwq (m : Mem) : (s.withMem m).pwq = s.pwq := rfl
@[simp] theorem State.withMem_maps (m : Mem) : (s.withMem m).maps = s.maps := rfl
@[simp] theorem State.withMem_writer (m : Mem) : (s.withMem m).writer = s.writer := rfl
@[simp] theorem State.withMem_reads (m : Mem) : (s.withMem m).reads = s.reads := rfl
@[simp] theorem State.withMem_port (m : Mem) : (s.withMem m).port = s.port := rfl
@[simp] theorem State.withMem_ctl (m : Mem) : (s.withMem m).ctl = s.ctl := rfl
@[simp] theorem State.withMem_faults (m : Mem) : (s.withMem m).faults = s.faults := rfl
@[simp] theorem State.withMem_service (m : Mem) : (s.withMem m).service = s.service := rfl
@[simp] theorem State.withMem_counters (m : Mem) : (s.withMem m).counters = s.counters := rfl
@[simp] theorem State.withMem_mem (m : Mem) : (s.withMem m).mem = m := rfl
@[simp] theorem State.withMem_pending (m : Mem) : (s.withMem m).pending = s.pending := rfl

@[simp] theorem State.withPending_inReset (cs : List Instr) : (s.withPending cs).inReset = s.inReset := rfl
@[simp] theorem State.withPending_host (cs : List Instr) : (s.withPending cs).host = s.host := rfl
@[simp] theorem State.withPending_regions (cs : List Instr) : (s.withPending cs).regions = s.regions := rfl
@[simp] theorem State.withPending_pwq (cs : List Instr) : (s.withPending cs).pwq = s.pwq := rfl
@[simp] theorem State.withPending_maps (cs : List Instr) : (s.withPending cs).maps = s.maps := rfl
@[simp] theorem State.withPending_writer (cs : List Instr) : (s.withPending cs).writer = s.writer := rfl
@[simp] theorem State.withPending_reads (cs : List Instr) : (s.withPending cs).reads = s.reads := rfl
@[simp] theorem State.withPending_port (cs : List Instr) : (s.withPending cs).port = s.port := rfl
@[simp] theorem State.withPending_ctl (cs : List Instr) : (s.withPending cs).ctl = s.ctl := rfl
@[simp] theorem State.withPending_faults (cs : List Instr) : (s.withPending cs).faults = s.faults := rfl
@[simp] theorem State.withPending_service (cs : List Instr) : (s.withPending cs).service = s.service := rfl
@[simp] theorem State.withPending_counters (cs : List Instr) : (s.withPending cs).counters = s.counters := rfl
@[simp] theorem State.withPending_mem (cs : List Instr) : (s.withPending cs).mem = s.mem := rfl
@[simp] theorem State.withPending_pending (cs : List Instr) : (s.withPending cs).pending = cs := rfl

@[simp] theorem State.answerHost_inReset (r : HostResponse) : (s.answerHost r).inReset = s.inReset := rfl
@[simp] theorem State.answerHost_host (r : HostResponse) : (s.answerHost r).host = { s.host with response := some r } := rfl
@[simp] theorem State.answerHost_regions (r : HostResponse) : (s.answerHost r).regions = s.regions := rfl
@[simp] theorem State.answerHost_pwq (r : HostResponse) : (s.answerHost r).pwq = s.pwq := rfl
@[simp] theorem State.answerHost_maps (r : HostResponse) : (s.answerHost r).maps = s.maps := rfl
@[simp] theorem State.answerHost_writer (r : HostResponse) : (s.answerHost r).writer = s.writer := rfl
@[simp] theorem State.answerHost_reads (r : HostResponse) : (s.answerHost r).reads = s.reads := rfl
@[simp] theorem State.answerHost_port (r : HostResponse) : (s.answerHost r).port = s.port := rfl
@[simp] theorem State.answerHost_ctl (r : HostResponse) : (s.answerHost r).ctl = s.ctl := rfl
@[simp] theorem State.answerHost_faults (r : HostResponse) : (s.answerHost r).faults = s.faults := rfl
@[simp] theorem State.answerHost_service (r : HostResponse) : (s.answerHost r).service = s.service := rfl
@[simp] theorem State.answerHost_counters (r : HostResponse) : (s.answerHost r).counters = s.counters := rfl
@[simp] theorem State.answerHost_mem (r : HostResponse) : (s.answerHost r).mem = s.mem := rfl
@[simp] theorem State.answerHost_pending (r : HostResponse) : (s.answerHost r).pending = s.pending := rfl

@[simp] theorem State.bump_inReset (k : Counter) : (s.bump k).inReset = s.inReset := rfl
@[simp] theorem State.bump_host (k : Counter) : (s.bump k).host = s.host := rfl
@[simp] theorem State.bump_regions (k : Counter) : (s.bump k).regions = s.regions := rfl
@[simp] theorem State.bump_pwq (k : Counter) : (s.bump k).pwq = s.pwq := rfl
@[simp] theorem State.bump_maps (k : Counter) : (s.bump k).maps = s.maps := rfl
@[simp] theorem State.bump_writer (k : Counter) : (s.bump k).writer = s.writer := rfl
@[simp] theorem State.bump_reads (k : Counter) : (s.bump k).reads = s.reads := rfl
@[simp] theorem State.bump_port (k : Counter) : (s.bump k).port = s.port := rfl
@[simp] theorem State.bump_ctl (k : Counter) : (s.bump k).ctl = s.ctl := rfl
@[simp] theorem State.bump_faults (k : Counter) : (s.bump k).faults = s.faults := rfl
@[simp] theorem State.bump_service (k : Counter) : (s.bump k).service = s.service := rfl
@[simp] theorem State.bump_counters (k : Counter) : (s.bump k).counters = s.counters.set k.index (satInc s.counters[k.index]) := rfl
@[simp] theorem State.bump_mem (k : Counter) : (s.bump k).mem = s.mem := rfl
@[simp] theorem State.bump_pending (k : Counter) : (s.bump k).pending = s.pending := rfl

@[simp] theorem State.setCause_inReset (c : Cause) : (s.setCause c).inReset = s.inReset := rfl
@[simp] theorem State.setCause_host (c : Cause) : (s.setCause c).host = s.host := rfl
@[simp] theorem State.setCause_regions (c : Cause) : (s.setCause c).regions = s.regions := rfl
@[simp] theorem State.setCause_pwq (c : Cause) : (s.setCause c).pwq = s.pwq := rfl
@[simp] theorem State.setCause_maps (c : Cause) : (s.setCause c).maps = s.maps := rfl
@[simp] theorem State.setCause_writer (c : Cause) : (s.setCause c).writer = s.writer := rfl
@[simp] theorem State.setCause_reads (c : Cause) : (s.setCause c).reads = s.reads := rfl
@[simp] theorem State.setCause_port (c : Cause) : (s.setCause c).port = s.port := rfl
@[simp] theorem State.setCause_ctl (c : Cause) : (s.setCause c).ctl = s.ctl := rfl
@[simp] theorem State.setCause_faults (c : Cause) : (s.setCause c).faults = s.faults := rfl
@[simp] theorem State.setCause_service (c : Cause) : (s.setCause c).service = { s.service with causes := s.service.causes ||| c.bit } := rfl
@[simp] theorem State.setCause_counters (c : Cause) : (s.setCause c).counters = s.counters := rfl
@[simp] theorem State.setCause_mem (c : Cause) : (s.setCause c).mem = s.mem := rfl
@[simp] theorem State.setCause_pending (c : Cause) : (s.setCause c).pending = s.pending := rfl

@[simp] theorem State.withWork_inReset (w : EpochWork) : (s.withWork w).inReset = s.inReset := rfl
@[simp] theorem State.withWork_host (w : EpochWork) : (s.withWork w).host = s.host := rfl
@[simp] theorem State.withWork_regions (w : EpochWork) : (s.withWork w).regions = s.regions := rfl
@[simp] theorem State.withWork_pwq (w : EpochWork) : (s.withWork w).pwq = s.pwq := rfl
@[simp] theorem State.withWork_maps (w : EpochWork) : (s.withWork w).maps = s.maps := rfl
@[simp] theorem State.withWork_writer (w : EpochWork) : (s.withWork w).writer = s.writer := rfl
@[simp] theorem State.withWork_reads (w : EpochWork) : (s.withWork w).reads = s.reads := rfl
@[simp] theorem State.withWork_port (w : EpochWork) : (s.withWork w).port = s.port := rfl
@[simp] theorem State.withWork_ctl (w : EpochWork) : (s.withWork w).ctl = { s.ctl with work := w } := rfl
@[simp] theorem State.withWork_faults (w : EpochWork) : (s.withWork w).faults = s.faults := rfl
@[simp] theorem State.withWork_service (w : EpochWork) : (s.withWork w).service = s.service := rfl
@[simp] theorem State.withWork_counters (w : EpochWork) : (s.withWork w).counters = s.counters := rfl
@[simp] theorem State.withWork_mem (w : EpochWork) : (s.withWork w).mem = s.mem := rfl
@[simp] theorem State.withWork_pending (w : EpochWork) : (s.withWork w).pending = s.pending := rfl

@[simp] theorem State.flushItemDone_inReset (ok : Bool) : (s.flushItemDone ok).inReset = s.inReset := rfl
@[simp] theorem State.flushItemDone_host (ok : Bool) : (s.flushItemDone ok).host = s.host := rfl
@[simp] theorem State.flushItemDone_regions (ok : Bool) : (s.flushItemDone ok).regions = s.regions := rfl
@[simp] theorem State.flushItemDone_pwq (ok : Bool) : (s.flushItemDone ok).pwq = s.pwq := rfl
@[simp] theorem State.flushItemDone_maps (ok : Bool) : (s.flushItemDone ok).maps = s.maps := rfl
@[simp] theorem State.flushItemDone_writer (ok : Bool) : (s.flushItemDone ok).writer = s.writer := rfl
@[simp] theorem State.flushItemDone_reads (ok : Bool) : (s.flushItemDone ok).reads = s.reads := rfl
@[simp] theorem State.flushItemDone_port (ok : Bool) : (s.flushItemDone ok).port = s.port := rfl
@[simp] theorem State.flushItemDone_ctl (ok : Bool) : (s.flushItemDone ok).ctl = { s.ctl with resumeFlush := s.ctl.resumeFlush.completed ok } := rfl
@[simp] theorem State.flushItemDone_faults (ok : Bool) : (s.flushItemDone ok).faults = s.faults := rfl
@[simp] theorem State.flushItemDone_service (ok : Bool) : (s.flushItemDone ok).service = s.service := rfl
@[simp] theorem State.flushItemDone_counters (ok : Bool) : (s.flushItemDone ok).counters = s.counters := rfl
@[simp] theorem State.flushItemDone_mem (ok : Bool) : (s.flushItemDone ok).mem = s.mem := rfl
@[simp] theorem State.flushItemDone_pending (ok : Bool) : (s.flushItemDone ok).pending = s.pending := rfl

@[simp] theorem State.readItemDone_inReset (ok : Bool) : (s.readItemDone ok).inReset = s.inReset := rfl
@[simp] theorem State.readItemDone_host (ok : Bool) : (s.readItemDone ok).host = s.host := rfl
@[simp] theorem State.readItemDone_regions (ok : Bool) : (s.readItemDone ok).regions = s.regions := rfl
@[simp] theorem State.readItemDone_pwq (ok : Bool) : (s.readItemDone ok).pwq = s.pwq := rfl
@[simp] theorem State.readItemDone_maps (ok : Bool) : (s.readItemDone ok).maps = s.maps := rfl
@[simp] theorem State.readItemDone_writer (ok : Bool) : (s.readItemDone ok).writer = s.writer := rfl
@[simp] theorem State.readItemDone_reads (ok : Bool) : (s.readItemDone ok).reads = s.reads := rfl
@[simp] theorem State.readItemDone_port (ok : Bool) : (s.readItemDone ok).port = s.port := rfl
@[simp] theorem State.readItemDone_ctl (ok : Bool) : (s.readItemDone ok).ctl = { s.ctl with resumeRead := s.ctl.resumeRead.completed ok } := rfl
@[simp] theorem State.readItemDone_faults (ok : Bool) : (s.readItemDone ok).faults = s.faults := rfl
@[simp] theorem State.readItemDone_service (ok : Bool) : (s.readItemDone ok).service = s.service := rfl
@[simp] theorem State.readItemDone_counters (ok : Bool) : (s.readItemDone ok).counters = s.counters := rfl
@[simp] theorem State.readItemDone_mem (ok : Bool) : (s.readItemDone ok).mem = s.mem := rfl
@[simp] theorem State.readItemDone_pending (ok : Bool) : (s.readItemDone ok).pending = s.pending := rfl

@[simp] theorem State.withCountUnknown_inReset (b : Bool) : (s.withCountUnknown b).inReset = s.inReset := rfl
@[simp] theorem State.withCountUnknown_host (b : Bool) : (s.withCountUnknown b).host = s.host := rfl
@[simp] theorem State.withCountUnknown_regions (b : Bool) : (s.withCountUnknown b).regions = s.regions := rfl
@[simp] theorem State.withCountUnknown_pwq (b : Bool) : (s.withCountUnknown b).pwq = s.pwq := rfl
@[simp] theorem State.withCountUnknown_maps (b : Bool) : (s.withCountUnknown b).maps = s.maps := rfl
@[simp] theorem State.withCountUnknown_writer (b : Bool) : (s.withCountUnknown b).writer = s.writer := rfl
@[simp] theorem State.withCountUnknown_reads (b : Bool) : (s.withCountUnknown b).reads = s.reads := rfl
@[simp] theorem State.withCountUnknown_port (b : Bool) : (s.withCountUnknown b).port = s.port := rfl
@[simp] theorem State.withCountUnknown_ctl (b : Bool) : (s.withCountUnknown b).ctl = { s.ctl with countUnknown := b } := rfl
@[simp] theorem State.withCountUnknown_faults (b : Bool) : (s.withCountUnknown b).faults = s.faults := rfl
@[simp] theorem State.withCountUnknown_service (b : Bool) : (s.withCountUnknown b).service = s.service := rfl
@[simp] theorem State.withCountUnknown_counters (b : Bool) : (s.withCountUnknown b).counters = s.counters := rfl
@[simp] theorem State.withCountUnknown_mem (b : Bool) : (s.withCountUnknown b).mem = s.mem := rfl
@[simp] theorem State.withCountUnknown_pending (b : Bool) : (s.withCountUnknown b).pending = s.pending := rfl

@[simp] theorem State.withWalkRemaining_inReset (n : Nat) : (s.withWalkRemaining n).inReset = s.inReset := rfl
@[simp] theorem State.withWalkRemaining_host (n : Nat) : (s.withWalkRemaining n).host = s.host := rfl
@[simp] theorem State.withWalkRemaining_regions (n : Nat) : (s.withWalkRemaining n).regions = s.regions := rfl
@[simp] theorem State.withWalkRemaining_pwq (n : Nat) : (s.withWalkRemaining n).pwq = s.pwq := rfl
@[simp] theorem State.withWalkRemaining_maps (n : Nat) : (s.withWalkRemaining n).maps = s.maps := rfl
@[simp] theorem State.withWalkRemaining_writer (n : Nat) : (s.withWalkRemaining n).writer = s.writer := rfl
@[simp] theorem State.withWalkRemaining_reads (n : Nat) : (s.withWalkRemaining n).reads = s.reads := rfl
@[simp] theorem State.withWalkRemaining_port (n : Nat) : (s.withWalkRemaining n).port = s.port := rfl
@[simp] theorem State.withWalkRemaining_ctl (n : Nat) : (s.withWalkRemaining n).ctl = { s.ctl with walkRemaining := n } := rfl
@[simp] theorem State.withWalkRemaining_faults (n : Nat) : (s.withWalkRemaining n).faults = s.faults := rfl
@[simp] theorem State.withWalkRemaining_service (n : Nat) : (s.withWalkRemaining n).service = s.service := rfl
@[simp] theorem State.withWalkRemaining_counters (n : Nat) : (s.withWalkRemaining n).counters = s.counters := rfl
@[simp] theorem State.withWalkRemaining_mem (n : Nat) : (s.withWalkRemaining n).mem = s.mem := rfl
@[simp] theorem State.withWalkRemaining_pending (n : Nat) : (s.withWalkRemaining n).pending = s.pending := rfl

@[simp] theorem State.withStartCycle_inReset (c : StartCycle) : (s.withStartCycle c).inReset = s.inReset := rfl
@[simp] theorem State.withStartCycle_host (c : StartCycle) : (s.withStartCycle c).host = s.host := rfl
@[simp] theorem State.withStartCycle_regions (c : StartCycle) : (s.withStartCycle c).regions = s.regions := rfl
@[simp] theorem State.withStartCycle_pwq (c : StartCycle) : (s.withStartCycle c).pwq = s.pwq := rfl
@[simp] theorem State.withStartCycle_maps (c : StartCycle) : (s.withStartCycle c).maps = s.maps := rfl
@[simp] theorem State.withStartCycle_writer (c : StartCycle) : (s.withStartCycle c).writer = s.writer := rfl
@[simp] theorem State.withStartCycle_reads (c : StartCycle) : (s.withStartCycle c).reads = s.reads := rfl
@[simp] theorem State.withStartCycle_port (c : StartCycle) : (s.withStartCycle c).port = s.port := rfl
@[simp] theorem State.withStartCycle_ctl (c : StartCycle) : (s.withStartCycle c).ctl = { s.ctl with startCycle := some c } := rfl
@[simp] theorem State.withStartCycle_faults (c : StartCycle) : (s.withStartCycle c).faults = s.faults := rfl
@[simp] theorem State.withStartCycle_service (c : StartCycle) : (s.withStartCycle c).service = s.service := rfl
@[simp] theorem State.withStartCycle_counters (c : StartCycle) : (s.withStartCycle c).counters = s.counters := rfl
@[simp] theorem State.withStartCycle_mem (c : StartCycle) : (s.withStartCycle c).mem = s.mem := rfl
@[simp] theorem State.withStartCycle_pending (c : StartCycle) : (s.withStartCycle c).pending = s.pending := rfl

@[simp] theorem State.withDrain_inReset (b : Bool) : (s.withDrain b).inReset = s.inReset := rfl
@[simp] theorem State.withDrain_host (b : Bool) : (s.withDrain b).host = s.host := rfl
@[simp] theorem State.withDrain_regions (b : Bool) : (s.withDrain b).regions = s.regions := rfl
@[simp] theorem State.withDrain_pwq (b : Bool) : (s.withDrain b).pwq = s.pwq := rfl
@[simp] theorem State.withDrain_maps (b : Bool) : (s.withDrain b).maps = s.maps := rfl
@[simp] theorem State.withDrain_writer (b : Bool) : (s.withDrain b).writer = s.writer := rfl
@[simp] theorem State.withDrain_reads (b : Bool) : (s.withDrain b).reads = s.reads := rfl
@[simp] theorem State.withDrain_port (b : Bool) : (s.withDrain b).port = s.port := rfl
@[simp] theorem State.withDrain_ctl (b : Bool) : (s.withDrain b).ctl = { s.ctl with drain := b } := rfl
@[simp] theorem State.withDrain_faults (b : Bool) : (s.withDrain b).faults = s.faults := rfl
@[simp] theorem State.withDrain_service (b : Bool) : (s.withDrain b).service = s.service := rfl
@[simp] theorem State.withDrain_counters (b : Bool) : (s.withDrain b).counters = s.counters := rfl
@[simp] theorem State.withDrain_mem (b : Bool) : (s.withDrain b).mem = s.mem := rfl
@[simp] theorem State.withDrain_pending (b : Bool) : (s.withDrain b).pending = s.pending := rfl

@[simp] theorem State.frozenIn_inReset (p : Phase) : (s.frozenIn p).inReset = s.inReset := rfl
@[simp] theorem State.frozenIn_host (p : Phase) : (s.frozenIn p).host = s.host := rfl
@[simp] theorem State.frozenIn_regions (p : Phase) : (s.frozenIn p).regions = s.regions := rfl
@[simp] theorem State.frozenIn_pwq (p : Phase) : (s.frozenIn p).pwq = s.pwq := rfl
@[simp] theorem State.frozenIn_maps (p : Phase) : (s.frozenIn p).maps = s.maps := rfl
@[simp] theorem State.frozenIn_writer (p : Phase) : (s.frozenIn p).writer = s.writer := rfl
@[simp] theorem State.frozenIn_reads (p : Phase) : (s.frozenIn p).reads = s.reads := rfl
@[simp] theorem State.frozenIn_port (p : Phase) : (s.frozenIn p).port = s.port := rfl
@[simp] theorem State.frozenIn_ctl (p : Phase) : (s.frozenIn p).ctl = { s.ctl with phase := p, work := .rest, freeze := true } := rfl
@[simp] theorem State.frozenIn_faults (p : Phase) : (s.frozenIn p).faults = s.faults := rfl
@[simp] theorem State.frozenIn_service (p : Phase) : (s.frozenIn p).service = s.service := rfl
@[simp] theorem State.frozenIn_counters (p : Phase) : (s.frozenIn p).counters = s.counters := rfl
@[simp] theorem State.frozenIn_mem (p : Phase) : (s.frozenIn p).mem = s.mem := rfl
@[simp] theorem State.frozenIn_pending (p : Phase) : (s.frozenIn p).pending = s.pending := rfl

@[simp] theorem State.admitted_inReset (k : OpKind) (g : Option Geometry) : (s.admitted k g).inReset = s.inReset := rfl
@[simp] theorem State.admitted_host (k : OpKind) (g : Option Geometry) : (s.admitted k g).host = s.host := rfl
@[simp] theorem State.admitted_regions (k : OpKind) (g : Option Geometry) : (s.admitted k g).regions = s.regions := rfl
@[simp] theorem State.admitted_pwq (k : OpKind) (g : Option Geometry) : (s.admitted k g).pwq = s.pwq := rfl
@[simp] theorem State.admitted_maps (k : OpKind) (g : Option Geometry) : (s.admitted k g).maps = s.maps := rfl
@[simp] theorem State.admitted_writer (k : OpKind) (g : Option Geometry) : (s.admitted k g).writer = s.writer := rfl
@[simp] theorem State.admitted_reads (k : OpKind) (g : Option Geometry) : (s.admitted k g).reads = s.reads := rfl
@[simp] theorem State.admitted_port (k : OpKind) (g : Option Geometry) : (s.admitted k g).port = s.port := rfl
@[simp] theorem State.admitted_ctl (k : OpKind) (g : Option Geometry) : (s.admitted k g).ctl = { s.ctl with op := some k, formatArgs := g } := rfl
@[simp] theorem State.admitted_faults (k : OpKind) (g : Option Geometry) : (s.admitted k g).faults = s.faults := rfl
@[simp] theorem State.admitted_service (k : OpKind) (g : Option Geometry) : (s.admitted k g).service = s.service := rfl
@[simp] theorem State.admitted_counters (k : OpKind) (g : Option Geometry) : (s.admitted k g).counters = s.counters := rfl
@[simp] theorem State.admitted_mem (k : OpKind) (g : Option Geometry) : (s.admitted k g).mem = s.mem := rfl
@[simp] theorem State.admitted_pending (k : OpKind) (g : Option Geometry) : (s.admitted k g).pending = s.pending := rfl

@[simp] theorem State.activateStaged_inReset : (s.activateStaged).inReset = s.inReset := rfl
@[simp] theorem State.activateStaged_host : (s.activateStaged).host = s.host := rfl
@[simp] theorem State.activateStaged_regions : (s.activateStaged).regions = { s.regions with active := s.regions.staged } := rfl
@[simp] theorem State.activateStaged_pwq : (s.activateStaged).pwq = s.pwq := rfl
@[simp] theorem State.activateStaged_maps : (s.activateStaged).maps = s.maps := rfl
@[simp] theorem State.activateStaged_writer : (s.activateStaged).writer = s.writer := rfl
@[simp] theorem State.activateStaged_reads : (s.activateStaged).reads = s.reads := rfl
@[simp] theorem State.activateStaged_port : (s.activateStaged).port = s.port := rfl
@[simp] theorem State.activateStaged_ctl : (s.activateStaged).ctl = s.ctl := rfl
@[simp] theorem State.activateStaged_faults : (s.activateStaged).faults = s.faults := rfl
@[simp] theorem State.activateStaged_service : (s.activateStaged).service = s.service := rfl
@[simp] theorem State.activateStaged_counters : (s.activateStaged).counters = s.counters := rfl
@[simp] theorem State.activateStaged_mem : (s.activateStaged).mem = s.mem := rfl
@[simp] theorem State.activateStaged_pending : (s.activateStaged).pending = s.pending := rfl

end Sys2Proof.Machine
end

