-- ==== Sys2Proof/Laws/Frame.lean ====
section
/-! SUPPORT. What the blocks' own tests and phases never touch: the RESET line, the host port, the memory port, the
memory and the queue of commands. One lemma for each shared operation, for the proofs that an effect leaves these
alone. -/

namespace Sys2Proof.Machine

/-- Two states agree on the RESET line, the host port, the memory port, the memory and the queue of commands. -/
structure SameOuter (s t : State) : Prop where
  inReset : t.inReset = s.inReset
  host : t.host = s.host
  port : t.port = s.port
  mem : t.mem = s.mem
  pending : t.pending = s.pending

namespace SameOuter

theorem rfl' (s : State) : SameOuter s s := ⟨rfl, rfl, rfl, rfl, rfl⟩

theorem trans {s t u : State} (h : SameOuter s t) (k : SameOuter t u) : SameOuter s u :=
  ⟨k.inReset.trans h.inReset, k.host.trans h.host, k.port.trans h.port, k.mem.trans h.mem, k.pending.trans h.pending⟩

/-- `trans` with the later part first. -/
theorem after {s t u : State} (k : SameOuter t u) (h : SameOuter s t) : SameOuter s u := h.trans k

theorem either {s t u : State} (c : Prop) [Decidable c] (h : SameOuter s t) (k : SameOuter s u) :
    SameOuter s (if c then t else u) := by
  split <;> assumption

end SameOuter

open SameOuter

theorem bump_outer (s : State) (k : Counter) : SameOuter s (s.bump k) := ⟨rfl, rfl, rfl, rfl, rfl⟩
theorem setCause_outer (s : State) (c : Cause) : SameOuter s (s.setCause c) := ⟨rfl, rfl, rfl, rfl, rfl⟩
theorem withEntries_outer (s : State) (e : List Entry) : SameOuter s (s.withEntries e) := ⟨rfl, rfl, rfl, rfl, rfl⟩
theorem withClassifier_outer (s : State) (c : Classifier) : SameOuter s (s.withClassifier c) :=
  ⟨rfl, rfl, rfl, rfl, rfl⟩
theorem withWriter_outer (s : State) (w : JournalWriter) : SameOuter s (s.withWriter w) := ⟨rfl, rfl, rfl, rfl, rfl⟩
theorem withMaps_outer (s : State) (m : TouchMaps) : SameOuter s (s.withMaps m) := ⟨rfl, rfl, rfl, rfl, rfl⟩
theorem withReads_outer (s : State) (r : ReadSlots) : SameOuter s (s.withReads r) := ⟨rfl, rfl, rfl, rfl, rfl⟩
theorem withPhase_outer (s : State) (p : Phase) (w : EpochWork) : SameOuter s (s.withPhase p w) :=
  ⟨rfl, rfl, rfl, rfl, rfl⟩
theorem withWork_outer (s : State) (w : EpochWork) : SameOuter s (s.withWork w) := ⟨rfl, rfl, rfl, rfl, rfl⟩
theorem withJournal_outer (s : State) (j : JournalState) : SameOuter s (s.withJournal j) := ⟨rfl, rfl, rfl, rfl, rfl⟩
theorem withHaltedCause_outer (s : State) (c : Option HaltCause) : SameOuter s (s.withHaltedCause c) :=
  ⟨rfl, rfl, rfl, rfl, rfl⟩

theorem endOp_outer (s : State) (o : OpOutcome) : SameOuter s (s.endOp o) := by
  unfold State.endOp; split <;> exact ⟨rfl, rfl, rfl, rfl, rfl⟩

theorem recordFault_outer (s : State) (r : FaultReport) : SameOuter s (s.recordFault r) := ⟨rfl, rfl, rfl, rfl, rfl⟩

theorem haltOn_outer (s : State) (c : HaltCause) : SameOuter s (s.haltOn c) := by
  unfold State.haltOn
  split
  · exact rfl' s
  · dsimp only
    split
    · exact after (endOp_outer _ _) ⟨rfl, rfl, rfl, rfl, rfl⟩
    · exact ⟨rfl, rfl, rfl, rfl, rfl⟩

theorem report_outer (s : State) (r : FaultReport) : SameOuter s (s.report r) := by
  unfold State.report
  split
  · exact (recordFault_outer s r).trans (haltOn_outer _ _)
  · exact (recordFault_outer s r).trans (haltOn_outer _ _)
  · exact recordFault_outer s r

theorem quietTest_outer (s : State) : SameOuter s s.quietTest := either _ ⟨rfl, rfl, rfl, rfl, rfl⟩ (rfl' s)

theorem noteDeparture_outer (s : State) (g : Nat) : SameOuter s (s.noteDeparture g) := ⟨rfl, rfl, rfl, rfl, rfl⟩

theorem noteAcceptance_outer (s : State) (g : Nat) : SameOuter s (s.noteAcceptance g) := ⟨rfl, rfl, rfl, rfl, rfl⟩

theorem freeAllSlots_outer (s : State) : SameOuter s s.freeAllSlots := ⟨rfl, rfl, rfl, rfl, rfl⟩

theorem depart_outer (s : State) (i : Nat) : SameOuter s (s.depart i) := by
  unfold State.depart; split <;> exact ⟨rfl, rfl, rfl, rfl, rfl⟩

theorem examineHead_outer (s : State) : SameOuter s s.examineHead := ⟨rfl, rfl, rfl, rfl, rfl⟩

theorem sealTest_outer (s : State) : SameOuter s s.sealTest := by
  unfold State.sealTest
  split
  · exact rfl' s
  · exact either _ ⟨rfl, rfl, rfl, rfl, rfl⟩ (rfl' s)

theorem coalesceExpired_outer (s : State) : SameOuter s s.coalesceExpired :=
  (withWriter_outer s _).trans (sealTest_outer _)

theorem coalesceTest_outer (s : State) : SameOuter s s.coalesceTest :=
  either _ (either _ (coalesceExpired_outer s) (withWriter_outer s _)) (rfl' s)

theorem writePath_outer (s : State) : SameOuter s s.writePath :=
  ((examineHead_outer s).trans (sealTest_outer _)).trans (coalesceTest_outer _)

theorem warnTest_outer (s : State) : SameOuter s s.warnTest := either _ ⟨rfl, rfl, rfl, rfl, rfl⟩ (rfl' s)

theorem fullReport_outer (s : State) : SameOuter s s.fullReport := either _ ⟨rfl, rfl, rfl, rfl, rfl⟩ (rfl' s)

/-! ### The epoch controller -/

theorem withGeometry_outer (s : State) (g : Geometry) : SameOuter s (s.withGeometry g) :=
  either _ (rfl' s) ⟨rfl, rfl, rfl, rfl, rfl⟩

theorem activateStaged_outer (s : State) : SameOuter s s.activateStaged := ⟨rfl, rfl, rfl, rfl, rfl⟩

theorem activate_outer (s : State) : SameOuter s s.activate := by
  unfold State.activate
  have h : SameOuter s (if activatesTable s.ctl.op s.ctl.phase then s.activateStaged else s) :=
    either _ (activateStaged_outer s) (rfl' s)
  dsimp only
  split
  · exact h.trans (withGeometry_outer _ _)
  · exact h

theorem startAnchor_outer (s : State) (p : Phase) (e : Word) : SameOuter s (s.startAnchor p e) :=
  withPhase_outer s _ _

theorem enterAnchorPhase_outer (s : State) : SameOuter s s.enterAnchorPhase :=
  either _ (startAnchor_outer s _ _) (startAnchor_outer s _ _)

theorem sweepWaitTest_outer (s : State) : SameOuter s s.sweepWaitTest := either _ (enterAnchorPhase_outer s) (rfl' s)

theorem enterSweepWait_outer (s : State) : SameOuter s s.enterSweepWait :=
  (withPhase_outer s _ _).trans (sweepWaitTest_outer _)

theorem withDrain_outer (s : State) (b : Bool) : SameOuter s (s.withDrain b) := ⟨rfl, rfl, rfl, rfl, rfl⟩

theorem withWalkRemaining_outer (s : State) (n : Nat) : SameOuter s (s.withWalkRemaining n) :=
  ⟨rfl, rfl, rfl, rfl, rfl⟩

theorem drainTest_outer (s : State) : SameOuter s s.drainTest :=
  either _ ((withDrain_outer s _).trans (enterSweepWait_outer _)) (rfl' s)

theorem enterDrain_outer (s : State) : SameOuter s s.enterDrain :=
  (((withPhase_outer s _ _).trans (withDrain_outer _ _)).trans (sealTest_outer _)).trans (drainTest_outer _)

theorem freezeTest_outer (s : State) : SameOuter s s.freezeTest := either _ (enterDrain_outer s) (rfl' s)

theorem enterScan_outer (s : State) : SameOuter s s.enterScan := ⟨rfl, rfl, rfl, rfl, rfl⟩

theorem enterWalk_outer (s : State) : SameOuter s s.enterWalk := by
  unfold State.enterWalk
  exact either _ ((withWalkRemaining_outer s _).trans (enterSweepWait_outer _)) ⟨rfl, rfl, rfl, rfl, rfl⟩

theorem trimTest_outer (s : State) : SameOuter s s.trimTest := either _ (rfl' s) (withWriter_outer s _)

theorem resolveEndTest_outer (s : State) : SameOuter s s.resolveEndTest :=
  either _ (either _ (enterScan_outer s) (enterWalk_outer s)) (rfl' s)

theorem resolveTest_outer (s : State) : SameOuter s s.resolveTest :=
  (trimTest_outer s).trans (resolveEndTest_outer _)

theorem chargeFate_outer (s : State) (e : Entry) (f : Fate) : SameOuter s (s.chargeFate e f) := by
  cases f with
  | discard => exact ⟨rfl, rfl, rfl, rfl, rfl⟩
  | tableDiscard =>
    have h : SameOuter s ((s.noteDeparture e.granule).bump .writesDiscarded) := ⟨rfl, rfl, rfl, rfl, rfl⟩
    exact h.trans (report_outer _ (s.tableDiscardReport e))
  | elide => exact ⟨rfl, rfl, rfl, rfl, rfl⟩
  | keep _ => exact rfl' s

/-- A fold of steps each of which keeps the outer fields keeps them. -/
theorem foldl_outer {α : Type} (f : State → α → State) (h : ∀ s a, SameOuter s (f s a)) (l : List α) (s : State) :
    SameOuter s (l.foldl f s) := by
  induction l generalizing s with
  | nil => exact rfl' s
  | cons a l ih => exact (h s a).trans (ih _)

theorem resolveQueue_outer (s : State) : SameOuter s s.resolveQueue :=
  (withEntries_outer s _).trans (foldl_outer _ (fun t e => chargeFate_outer t e _) _ _)

theorem resolveClassifier_outer (s : State) : SameOuter s s.resolveClassifier :=
  either _ (rfl' s) (withClassifier_outer s _)

theorem enterResolve_outer (s : State) : SameOuter s s.enterResolve := by
  unfold State.enterResolve
  exact ((((withPhase_outer s _ _).trans (resolveQueue_outer _)).trans (resolveClassifier_outer _)).trans
    (withWriter_outer _ _)).trans (resolveTest_outer _)

theorem quiesceTest_outer (s : State) : SameOuter s s.quiesceTest := either _ (rfl' s) (enterResolve_outer s)

theorem resumeTest_outer (s : State) : SameOuter s s.resumeTest :=
  either _ (rfl' s) (either _ (endOp_outer s _) (either _ (endOp_outer s _) (after (endOp_outer _ _) ⟨rfl, rfl, rfl, rfl, rfl⟩)))

theorem flushItemDone_outer (s : State) (ok : Bool) : SameOuter s (s.flushItemDone ok) := ⟨rfl, rfl, rfl, rfl, rfl⟩

theorem readItemDone_outer (s : State) (ok : Bool) : SameOuter s (s.readItemDone ok) := ⟨rfl, rfl, rfl, rfl, rfl⟩

theorem advance_outer (s : State) : SameOuter s s.advance := by
  unfold State.advance
  split
  · exact freezeTest_outer s
  · exact drainTest_outer s
  · exact quiesceTest_outer s
  · exact resolveTest_outer s
  · exact resumeTest_outer s
  · exact rfl' s

theorem settle_outer (s : State) : SameOuter s s.settle :=
  ((writePath_outer s).trans (advance_outer _)).trans (quietTest_outer _)

theorem openEpoch_outer (s : State) : SameOuter s s.openEpoch := ⟨rfl, rfl, rfl, rfl, rfl⟩

theorem switchPoint_outer (s : State) : SameOuter s s.switchPoint := by
  unfold State.switchPoint
  exact after (bump_outer _ _) (after (endOp_outer _ _) ⟨rfl, rfl, rfl, rfl, rfl⟩)

theorem endStart_outer (s : State) (j : JournalState) : SameOuter s (s.endStart j) := by
  unfold State.endStart
  exact either _ ⟨rfl, rfl, rfl, rfl, rfl⟩ ⟨rfl, rfl, rfl, rfl, rfl⟩

theorem restartDone_outer (s : State) : SameOuter s s.restartDone :=
  after (endStart_outer _ _) ⟨rfl, rfl, rfl, rfl, rfl⟩

theorem clearResumed_outer (s : State) : SameOuter s s.clearResumed :=
  after (endStart_outer _ _) ⟨rfl, rfl, rfl, rfl, rfl⟩

theorem retireTest_outer (s : State) : SameOuter s s.retireTest := either _ (withMaps_outer s _) (rfl' s)

theorem failIntoRecovery_outer (s : State) : SameOuter s s.failIntoRecovery :=
  after (endOp_outer _ _) ((retireTest_outer s).trans ⟨rfl, rfl, rfl, rfl, rfl⟩)

theorem discardLost_outer (s : State) : SameOuter s s.discardLost := by
  unfold State.discardLost
  refine (withEntries_outer s _).trans (foldl_outer _ ?_ _ _)
  exact fun _ _ => ⟨rfl, rfl, rfl, rfl, rfl⟩

theorem cycleFailed_outer (s : State) : SameOuter s s.cycleFailed :=
  either _ (endStart_outer s _) ((discardLost_outer s).trans (failIntoRecovery_outer _))

theorem anchorFailed_outer (s : State) : SameOuter s s.anchorFailed := by
  unfold State.anchorFailed
  refine either _ (endStart_outer s _) (either _ (cycleFailed_outer s) ?_)
  split
  · exact (withJournal_outer s _).trans (endOp_outer _ _)
  · exact failIntoRecovery_outer s
  · exact endOp_outer s _

theorem anchorWriteFailed_outer (s : State) (a : Anchor) : SameOuter s (s.anchorWriteFailed a) :=
  (report_outer s _).trans (anchorFailed_outer _)

theorem acknowledge_outer (s : State) (a : Anchor) : SameOuter s (s.acknowledge a) := ⟨rfl, rfl, rfl, rfl, rfl⟩

theorem beginClear_outer (s : State) : SameOuter s s.beginClear := ⟨rfl, rfl, rfl, rfl, rfl⟩

theorem enterAnchor1_outer (s : State) : SameOuter s s.enterAnchor1 := startAnchor_outer s _ _

theorem anchorAcknowledged_outer (s : State) (a : Anchor) : SameOuter s (s.anchorAcknowledged a) := by
  unfold State.anchorAcknowledged
  have h : SameOuter s (s.acknowledge a).activate := (acknowledge_outer s a).trans (activate_outer _)
  dsimp only
  split
  · exact h.trans (switchPoint_outer _)
  · exact h.trans (beginClear_outer _)
  · exact h.trans (either _ (either _ (restartDone_outer _) (clearResumed_outer _)) (switchPoint_outer _))
  · exact h.trans (restartDone_outer _)
  · exact h.trans (withPhase_outer _ _ _)

theorem withStartCycle_outer (s : State) (c : StartCycle) : SameOuter s (s.withStartCycle c) :=
  ⟨rfl, rfl, rfl, rfl, rfl⟩

theorem enterRestart_outer (s : State) : SameOuter s s.enterRestart :=
  either _ ((withStartCycle_outer s _).trans (startAnchor_outer _ _ _)) (startAnchor_outer s _ _)

theorem withCountUnknown_outer (s : State) (b : Bool) : SameOuter s (s.withCountUnknown b) :=
  ⟨rfl, rfl, rfl, rfl, rfl⟩

theorem scanCompleted_outer (s : State) (d : Nat) : SameOuter s (s.scanCompleted d) := by
  unfold State.scanCompleted
  have h := (withWriter_outer s (s.writer.withCounts d)).trans (withCountUnknown_outer _ false)
  exact either _ (either _ (h.trans (enterRestart_outer _)) (h.trans (endStart_outer _ _)))
    (h.trans (enterWalk_outer _))

theorem scanFailed_outer (s : State) (i : Nat) : SameOuter s (s.scanFailed i) := by
  unfold State.scanFailed
  have h := fun r w => ((report_outer s r).trans (withWriter_outer _ w)).trans (withCountUnknown_outer _ true)
  exact either _ ((h _ _).trans (endStart_outer _ _)) ((h _ _).trans (failIntoRecovery_outer _))

theorem walkFailed_outer (s : State) (r : FaultReport) : SameOuter s (s.walkFailed r) :=
  after (failIntoRecovery_outer _) ((report_outer s r).trans ⟨rfl, rfl, rfl, rfl, rfl⟩)

theorem loaded_outer (s : State) (copy : Copy) (a : Anchor) : SameOuter s (s.loaded copy a) :=
  ⟨rfl, rfl, rfl, rfl, rfl⟩

theorem selectAnchor_outer (s : State) (f : Option (Copy × Anchor)) : SameOuter s (s.selectAnchor f) := by
  unfold State.selectAnchor
  split
  · exact endStart_outer s _
  · rename_i copy a
    have h := (loaded_outer s copy a).trans (withGeometry_outer _ a.geometry)
    exact either _ (h.trans ((withStartCycle_outer _ _).trans (withPhase_outer _ _ _))) (h.trans (withPhase_outer _ _ _))

end Sys2Proof.Machine
end

