-- ==== Sys2Proof/Laws/Memory.lean ====
section
/-! SUPPORT. The laws of the working memory: a byte written reads back, every other byte stands, and every memory
operation keeps the canonical form. -/

namespace Sys2Proof.Machine

/-! ### The canonical form -/

theorem Mem.wfAbove_cons (low : Option Nat) (a : Nat) (b : Byte) (m : Mem) :
    Mem.wfAbove low ((a, b) :: m) = true ↔
      (∀ l, low = some l → l < a) ∧ b ≠ unlistedByte ∧ Mem.wfAbove (some a) m = true := by
  cases low <;> simp [Mem.wfAbove, and_assoc]

theorem Mem.wfAbove_weaken {l a : Nat} (h : l ≤ a) (m : Mem) (w : Mem.wfAbove (some a) m = true) :
    Mem.wfAbove (some l) m = true := by
  cases m with
  | nil => rfl
  | cons c m =>
    obtain ⟨x, b⟩ := c
    rw [Mem.wfAbove_cons] at w ⊢
    refine ⟨?_, w.2⟩
    intro k hk
    have := w.1 a rfl
    simp only [Option.some.injEq] at hk
    omega

/-- A byte write keeps the form above a bound below the address written. -/
theorem Mem.writeByte_wfAbove (m : Mem) (low : Option Nat) (addr : Nat) (v : Byte)
    (hl : ∀ l, low = some l → l < addr) (w : Mem.wfAbove low m = true) :
    Mem.wfAbove low (writeByte m addr v) = true := by
  induction m generalizing low with
  | nil =>
    unfold writeByte
    split
    · rfl
    · rename_i hv
      rw [Mem.wfAbove_cons]
      exact ⟨hl, hv, rfl⟩
  | cons c m ih =>
    obtain ⟨a, b⟩ := c
    rw [Mem.wfAbove_cons] at w
    unfold writeByte
    split
    · rename_i hlt
      split
      · rw [Mem.wfAbove_cons]; exact w
      · rename_i hv
        rw [Mem.wfAbove_cons, Mem.wfAbove_cons]
        exact ⟨hl, hv, fun l h => by cases h; exact hlt, w.2⟩
    · split
      · rename_i _ he
        subst he
        split
        · cases low with
          | none => cases m with
            | nil => rfl
            | cons c m =>
              obtain ⟨x, y⟩ := c
              have := w.2.2
              rw [Mem.wfAbove_cons] at this ⊢
              exact ⟨by simp, this.2⟩
          | some l => exact Mem.wfAbove_weaken (Nat.le_of_lt (hl l rfl)) m w.2.2
        · rename_i hv
          rw [Mem.wfAbove_cons]
          exact ⟨hl, hv, w.2.2⟩
      · rw [Mem.wfAbove_cons]
        refine ⟨w.1, w.2.1, ih _ ?_ w.2.2⟩
        intro l h
        cases h
        omega

theorem Mem.writeByte_wf (m : Mem) (addr : Nat) (v : Byte) (w : m.wf = true) : Mem.wf (writeByte m addr v) = true :=
  Mem.writeByte_wfAbove m none addr v (by simp) w

theorem Mem.writeLanes_wf (m : Mem) (addr : Nat) (x : LaneWord) (w : m.wf = true) :
    Mem.wf (writeLanes m addr x) = true := by
  unfold writeLanes
  generalize List.range 4 = ls
  induction ls generalizing m with
  | nil => exact w
  | cons l ls ih =>
    rw [List.foldl_cons]
    apply ih
    split
    · exact Mem.writeByte_wf _ _ _ w
    · exact w

theorem Mem.writeWords_wf (m : Mem) (addr : Nat) (ws : List LaneWord) (w : m.wf = true) :
    Mem.wf (writeWords m addr ws) = true := by
  induction ws generalizing m addr with
  | nil => exact w
  | cons x ws ih => exact ih _ _ (Mem.writeLanes_wf m addr x w)

theorem Mem.writeBytes_wf (m : Mem) (addr : Nat) (bs : List Byte) (w : m.wf = true) :
    Mem.wf (writeBytes m addr bs) = true := by
  induction bs generalizing m addr with
  | nil => exact w
  | cons b bs ih => exact ih _ _ (Mem.writeByte_wf m addr b w)

theorem Mem.leftBehind_wf (m : Mem) (a : Access) (left : List Byte) (w : m.wf = true) :
    Mem.wf (leftBehind m a left) = true := by
  cases a with
  | read _ _ => exact w
  | write addr words => exact Mem.writeBytes_wf m addr _ w

/-- The answer to an access keeps the canonical form. -/
theorem Mem.answeredMem_wf (m : Mem) (a : Access) (ans : WriteAnswer) (w : m.wf = true) :
    Mem.wf (answeredMem m a ans) = true := by
  cases a with
  | read _ _ => exact w
  | write addr words =>
    cases ans with
    | okay => exact Mem.writeWords_wf m addr words w
    | error left => exact Mem.leftBehind_wf m (.write addr words) left w

/-! ### Reading what was written -/

theorem readByte_above {a addr : Nat} (h : addr ≤ a) (m : Mem) (w : Mem.wfAbove (some a) m = true) :
    readByte m addr = unlistedByte := by
  induction m generalizing a with
  | nil => rfl
  | cons c m ih =>
    obtain ⟨x, b⟩ := c
    rw [Mem.wfAbove_cons] at w
    have hx := w.1 a rfl
    unfold readByte
    rw [if_neg (by omega)]
    exact ih (by omega) w.2.2

/-- A byte write leaves every other byte as it was. -/
theorem readByte_writeByte_ne (m : Mem) {addr other : Nat} (v : Byte) (h : other ≠ addr) :
    readByte (writeByte m addr v) other = readByte m other := by
  induction m with
  | nil =>
    unfold writeByte
    split
    · rfl
    · simp [readByte, h.symm]
  | cons c m ih =>
    obtain ⟨a, b⟩ := c
    unfold writeByte
    split
    · split
      · rfl
      · simp [readByte, h.symm]
    · split
      · rename_i _ he
        subst he
        split <;> simp [readByte, h.symm]
      · simp only [readByte, ih]

/-- A byte written reads back, in a memory in canonical form. -/
theorem readByte_writeByte_self (m : Mem) (addr : Nat) (v : Byte) (low : Option Nat)
    (w : Mem.wfAbove low m = true) : readByte (writeByte m addr v) addr = v := by
  induction m generalizing low with
  | nil =>
    unfold writeByte
    split
    · rename_i h
      exact h.symm
    · simp [readByte]
  | cons c m ih =>
    obtain ⟨a, b⟩ := c
    rw [Mem.wfAbove_cons] at w
    unfold writeByte
    split
    · rename_i hlt
      split
      · rename_i h
        unfold readByte
        rw [if_neg (by omega), readByte_above (a := a) (by omega) m w.2.2]
        exact h.symm
      · simp [readByte]
    · split
      · rename_i _ he
        subst he
        split
        · rename_i h
          rw [readByte_above (a := addr) (by omega) m w.2.2]
          exact h.symm
        · simp [readByte]
      · rename_i hne
        unfold readByte
        rw [if_neg (fun h => hne h.symm)]
        exact ih _ w.2.2

theorem readByte_writeLanes_ne (m : Mem) (addr other : Nat) (x : LaneWord) (h : other < addr ∨ addr + 4 ≤ other) :
    readByte (writeLanes m addr x) other = readByte m other := by
  unfold writeLanes
  have hl : ∀ l ∈ List.range 4, l < 4 := by simp
  revert hl
  generalize List.range 4 = ls
  intro hl
  induction ls generalizing m with
  | nil => rfl
  | cons l ls ih =>
    rw [List.foldl_cons, ih _ (fun k hk => hl k (List.mem_cons_of_mem _ hk))]
    split
    · exact readByte_writeByte_ne _ _ (by have := hl l List.mem_cons_self; omega)
    · rfl

/-- A write of words leaves every byte outside them as it was. -/
theorem readByte_writeWords_ne (ws : List LaneWord) (m : Mem) (addr other : Nat)
    (h : other < addr ∨ addr + 4 * ws.length ≤ other) :
    readByte (writeWords m addr ws) other = readByte m other := by
  induction ws generalizing m addr with
  | nil => rfl
  | cons x ws ih =>
    simp only [List.length_cons] at h
    unfold writeWords
    rw [ih _ _ (by omega), readByte_writeLanes_ne _ _ _ _ (by omega)]

/-- A write of bytes leaves every byte outside them as it was. -/
theorem readByte_writeBytes_ne (bs : List Byte) (m : Mem) (addr other : Nat)
    (h : other < addr ∨ addr + bs.length ≤ other) :
    readByte (writeBytes m addr bs) other = readByte m other := by
  induction bs generalizing m addr with
  | nil => rfl
  | cons b bs ih =>
    simp only [List.length_cons] at h
    unfold writeBytes
    rw [ih _ _ (by omega), readByte_writeByte_ne _ _ (by omega)]

/-- What an answered write leaves outside the bytes it addresses. -/
theorem readByte_answeredMem_ne (m : Mem) (a : Access) (ans : WriteAnswer) (other : Nat)
    (h : other < a.addr ∨ a.addr + 4 * a.len ≤ other) :
    readByte (answeredMem m a ans) other = readByte m other := by
  cases a with
  | read _ _ => rfl
  | write addr words =>
    cases ans with
    | okay => exact readByte_writeWords_ne words m addr other h
    | error left =>
      apply readByte_writeBytes_ne
      simp only [Access.addr, Access.len, List.length_take] at h ⊢
      omega

end Sys2Proof.Machine
end

