-- ==== Sys2Proof/Laws/Ops.lean ====
section
/-! SUPPORT. One lemma for each shared operation that says what it can do, and for each test what it tests, for the
proofs to cite in place of the definitions. -/

namespace Sys2Proof.Machine

/-! ### Counters, causes and answers -/

/-- A saturated counter stays, and another rises by one. -/
theorem satInc_cases (w : Word) :
    (w = BitVec.allOnes 32 ∧ satInc w = w) ∨ (w ≠ BitVec.allOnes 32 ∧ satInc w = w + 1) := by
  unfold satInc
  by_cases h : w = BitVec.allOnes 32
  · exact .inl ⟨h, by rw [if_pos h]⟩
  · exact .inr ⟨h, by rw [if_neg h]; rfl⟩

/-- The number of a counter names it. -/
theorem Counter.index_injective {j k : Counter} (h : j.index = k.index) : j = k := by
  revert h; cases j <;> cases k <;> decide

/-- A counter that is incremented. -/
theorem bump_counter (s : State) (k : Counter) : (s.bump k).counter k = satInc (s.counter k) := by
  simp [State.bump, State.counter]

/-- The other counters stay. -/
theorem bump_counter_ne (s : State) {j k : Counter} (h : k ≠ j) : (s.bump k).counter j = s.counter j := by
  have hn : k.index.val ≠ j.index.val := fun e => h (Counter.index_injective (Fin.ext e))
  simp [State.bump, State.counter, hn]

/-- A cause that is set is set. -/
theorem setCause_hasCause (s : State) (c : Cause) : (s.setCause c).hasCause c = true := by
  simp only [State.hasCause, State.setCause]
  generalize s.service.causes = w
  cases c <;> simp only [Cause.bit] <;> revert w <;> decide

/-- An answer makes the port IDLE and counts an ERROR. -/
theorem answered_cases (s : State) (isError : Bool) :
    (isError = false ∧ s.answered isError = s.withPort none) ∨
      (isError = true ∧ s.answered isError = (s.withPort none).bump .memoryErrors) := by
  cases isError
  · exact .inl ⟨rfl, rfl⟩
  · exact .inr ⟨rfl, rfl⟩

/-- The access in flight for an owner. -/
theorem inFlightFor_eq_some (s : State) (r : Requester) (a : Access) :
    s.inFlightFor r = some a ↔ s.port = some ⟨r, a⟩ := by
  unfold State.inFlightFor
  cases hp : s.port with
  | none => simp
  | some f =>
    obtain ⟨o, b⟩ := f
    by_cases h : o = r <;> simp [h]

/-- Nothing is in flight for an owner. -/
theorem inFlightFor_eq_none (s : State) (r : Requester) :
    s.inFlightFor r = none ↔ ∀ a, s.port ≠ some ⟨r, a⟩ := by
  rw [← Option.not_isSome_iff_eq_none, Option.isSome_iff_exists]
  simp only [inFlightFor_eq_some, not_exists, ne_eq]

/-- Out of RESET a command's effect is what it answers. -/
theorem running_next (s t : State) (h : s.inReset = false) : s.running t = .next t := by
  simp [State.running, h]

/-- In RESET a command is without effect. -/
theorem running_inReset (s t : State) (h : s.inReset = true) : s.running t = .next s := by
  simp [State.running, h]

/-! ### Faults, operation ends and PFQUIET -/

/-- The end of an operation, where one is in progress. -/
theorem endOp_some (s : State) (outcome : OpOutcome) (kind : OpKind) (h : s.ctl.op = some kind) :
    s.endOp outcome = { s with
      ctl := { s.ctl with
        op := none, phase := .noPhase, formatArgs := none, freeze := false, drain := false, work := .rest,
        resumeFlush := .notStarted, resumeRead := .notStarted,
        lastOp := some ⟨kind, outcome, s.ctl.epochInEffect⟩ }
      service := { s.service with causes := s.service.causes ||| 0x01 } } := by
  unfold State.endOp; rw [h]; rfl

/-- The end of an operation, where none is in progress. -/
theorem endOp_none (s : State) (outcome : OpOutcome) (h : s.ctl.op = none) : s.endOp outcome = s := by
  unfold State.endOp; rw [h]

/-- A halt decision is without effect outside READY and during a ROLLBACK. -/
theorem haltOn_stays (s : State) (c : HaltCause) (h : s.ctl.journal ≠ .ready ∨ s.ctl.op = some .rollback) :
    s.haltOn c = s := by
  unfold State.haltOn
  rw [if_pos]
  obtain h | h := h <;> simp [EpochController.rollingBack, h]

/-- A halt decision in READY, with no operation for it to fail. -/
theorem haltOn_halts (s : State) (c : HaltCause) (h : s.ctl.journal = .ready) (ho : s.ctl.op ≠ some .rollback)
    (hf : s.ctl.failsOnHalt = false) :
    s.haltOn c = ((s.withJournal .halted).withHaltedCause (some c)).setCause .halted := by
  have hk : (((s.withJournal .halted).withHaltedCause (some c)).setCause .halted).ctl.failsOnHalt = false := hf
  unfold State.haltOn
  rw [if_neg (by simp [EpochController.rollingBack, h, ho])]
  simp only [hk, Bool.false_eq_true, if_false]

/-- A halt decision in READY that fails the operation in progress. -/
theorem haltOn_fails (s : State) (c : HaltCause) (h : s.ctl.journal = .ready) (ho : s.ctl.op ≠ some .rollback)
    (hf : s.ctl.failsOnHalt = true) :
    s.haltOn c = (((s.withJournal .halted).withHaltedCause (some c)).setCause .halted).endOp .failed := by
  have hk : (((s.withJournal .halted).withHaltedCause (some c)).setCause .halted).ctl.failsOnHalt = true := hf
  unfold State.haltOn
  rw [if_neg (by simp [EpochController.rollingBack, h, ho])]
  simp only [hk, if_true]

/-- The report of a fault that does not halt. -/
theorem report_recorded (s : State) (r : FaultReport) (h1 : r.kind ≠ .oldRead) (h2 : r.kind ≠ .flush) :
    s.report r = s.recordFault r := by
  unfold State.report; split <;> simp_all

/-- PFQUIET's test asserts it in the first happening in which its conditions hold. -/
theorem quietTest_cases (s : State) :
    (s.quietTest = s ∧ (s.quiet = false ∨ s.faults.pfquiet = true)) ∨
      (s.quietTest = { s with faults := { s.faults with pfquiet := true } }.setCause .pfQuiet ∧ s.quiet = true ∧
        s.faults.pfquiet = false) := by
  unfold State.quietTest
  cases hq : s.quiet <;> cases hp : s.faults.pfquiet <;> simp

/-- The conditions of PFQUIET. -/
theorem quiet_iff (s : State) : s.quiet = true ↔
    s.inReset = false ∧ s.faults.hold = true ∧ s.pwq.entries = [] ∧ s.writer.banksEmpty = true ∧ s.ctl.op = none := by
  simp [State.quiet, and_assoc]

/-- PFQUIET does not rise while the queue holds an entry. -/
theorem quietTest_of_entries (s : State) (h : s.pwq.entries ≠ []) : s.quietTest = s := by
  simp [State.quietTest, State.quiet, h]

/-- PFQUIET does not rise without the hold. -/
theorem quietTest_of_hold (s : State) (h : s.faults.hold = false) : s.quietTest = s := by
  simp [State.quietTest, State.quiet, h]

/-- PFQUIET does not rise while an operation is in progress. -/
theorem quietTest_of_op (s : State) (h : s.ctl.op ≠ none) : s.quietTest = s := by
  have : s.ctl.op.isNone = false := by rw [← Bool.not_eq_true, Option.isNone_iff_eq_none]; exact h
  simp [State.quietTest, State.quiet, this]

/-! ### Read slots -/

/-- A slot of the mapped slots. -/
theorem mapSlots_get (r : ReadSlots) (f : Slot → Slot) (i : Fin 4) : (r.mapSlots f).slots[i] = f r.slots[i] := by
  simp [ReadSlots.mapSlots]

/-- The slot that is replaced. -/
theorem setSlot_get (r : ReadSlots) (i : Fin 4) (sl : Slot) : (r.setSlot i sl).slots[i] = sl := by
  simp [ReadSlots.setSlot]

/-- The slots that are not. -/
theorem setSlot_get_ne (r : ReadSlots) {i j : Fin 4} (sl : Slot) (h : i ≠ j) :
    (r.setSlot i sl).slots[j] = r.slots[j] := by
  have hn : i.val ≠ j.val := fun e => h (Fin.ext e)
  simp [ReadSlots.setSlot, hn]

/-- The slots after a departure. -/
theorem noteDeparture_get (s : State) (g : Nat) (i : Fin 4) :
    (s.noteDeparture g).reads.slots[i] = Slot.afterDeparture s.pwq g s.reads.slots[i] := mapSlots_get _ _ i

/-- The slots after an acceptance. -/
theorem noteAcceptance_get (s : State) (g : Nat) (i : Fin 4) :
    (s.noteAcceptance g).reads.slots[i] = Slot.afterAcceptance g s.reads.slots[i] := mapSlots_get _ _ i

/-- The slots after a ROLLBACK is accepted. -/
theorem freeAllSlots_get (s : State) (i : Fin 4) : s.freeAllSlots.reads.slots[i] = .free := mapSlots_get _ _ i

/-- The hazard test. -/
theorem addresses_iff (q : WriteQueue) (g : Nat) : q.addresses g = true ↔ ∃ e ∈ q.entries, e.granule = g := by
  simp [WriteQueue.addresses]

/-- The hazard test finds nothing. -/
theorem addresses_false (q : WriteQueue) (g : Nat) : q.addresses g = false ↔ ∀ e ∈ q.entries, e.granule ≠ g := by
  simp [WriteQueue.addresses]

/-- The slot a read matches is the lowest with its key. -/
theorem matching_eq (r : ReadSlots) (k : SlotKey) (i : Fin 4) (h : (r.slots[i]).key? = some k)
    (hn : ∀ j < i, (r.slots[j]).key? ≠ some k) : r.matching k = some i := by
  unfold ReadSlots.matching slotNumbers
  have a0 := hn 0; have a1 := hn 1; have a2 := hn 2
  match i, h with
  | 0, h => simp at h ⊢; simp [h]
  | 1, h => simp at *; simp [h, a0]
  | 2, h => simp at *; simp [h, a0, a1]
  | 3, h => simp at *; simp [h, a0, a1, a2]

/-- A read matches no slot. -/
theorem matching_none (r : ReadSlots) (k : SlotKey) (hn : ∀ j : Fin 4, (r.slots[j]).key? ≠ some k) :
    r.matching k = none := by
  unfold ReadSlots.matching slotNumbers
  have a0 := hn 0; have a1 := hn 1; have a2 := hn 2; have a3 := hn 3
  simp at *; simp [*]

/-- The lowest FREE slot. -/
theorem lowestFree_eq (r : ReadSlots) (i : Fin 4) (h : r.slots[i] = .free) (hn : ∀ j < i, r.slots[j] ≠ .free) :
    r.lowestFree = some i := by
  unfold ReadSlots.lowestFree slotNumbers
  have a0 := hn 0; have a1 := hn 1; have a2 := hn 2
  match i, h with
  | 0, h => simp at h ⊢; simp [h]
  | 1, h => simp at *; simp [h, a0]
  | 2, h => simp at *; simp [h, a0, a1]
  | 3, h => simp at *; simp [h, a0, a1, a2]

/-- No slot is FREE. -/
theorem lowestFree_none (r : ReadSlots) (hn : ∀ j : Fin 4, r.slots[j] ≠ .free) : r.lowestFree = none := by
  unfold ReadSlots.lowestFree slotNumbers
  have a0 := hn 0; have a1 := hn 1; have a2 := hn 2; have a3 := hn 3
  simp at *; simp [*]

/-! ### The queue -/

/-- The position of the first entry in a stage. -/
theorem firstIn_eq (q : WriteQueue) (before behind : List Entry) (e : Entry) (st : Stage)
    (hq : q.entries = before ++ e :: behind) (h : e.stage = st) (hn : ∀ x ∈ before, x.stage ≠ st) :
    q.firstIn st = some before.length := by
  have hb : before.findIdx? (fun e => e.stage == st) = none := by
    simp [List.findIdx?_eq_none_iff]; exact hn
  simp [WriteQueue.firstIn, hq, List.findIdx?_append, hb, List.findIdx?_cons, h]

/-- No entry is in a stage. -/
theorem firstIn_none (q : WriteQueue) (st : Stage) (hn : ∀ x ∈ q.entries, x.stage ≠ st) : q.firstIn st = none := by
  simp [WriteQueue.firstIn, List.findIdx?_eq_none_iff]; exact hn

/-- The entry at a position leaves. -/
theorem depart_eq (s : State) (before behind : List Entry) (e : Entry) (h : s.pwq.entries = before ++ e :: behind) :
    s.depart before.length = (s.withEntries (before ++ behind)).noteDeparture e.granule := by
  simp [State.depart, h, List.eraseIdx_append_of_length_le]

/-- An entry is a null write. -/
theorem isNull_iff (e : Entry) : e.isNull = true ↔ ∀ w ∈ e.data, w.2 = 0 := by
  simp [Entry.isNull]

/-- Every enabled byte of an entry equals its old byte. -/
theorem unchangedBy_iff (e : Entry) (old : List Word) : e.unchangedBy old = true ↔
    ∀ j w o, e.data[j]? = some w → old[e.first + j]? = some o →
      ∀ lane < 4, w.2.getLsbD lane = true → laneByte w.1 lane = laneByte o lane := by
  unfold Entry.unchangedBy
  simp only [List.all_eq_true, List.mem_range]
  constructor
  · intro h j w o hw ho lane hl hb
    have hj : j < e.data.length := by
      by_contra hx; simp [List.getElem?_eq_none (not_lt.1 hx)] at hw
    have := h j hj
    rw [hw, ho] at this
    simp only [List.all_eq_true, List.mem_range] at this
    have := this lane hl
    simp [hb] at this; exact this
  · intro h j hj
    cases hw : e.data[j]? with
    | none => rfl
    | some w =>
      cases ho : old[e.first + j]? with
      | none => rfl
      | some o =>
        simp only [List.all_eq_true, List.mem_range]
        intro lane hl
        have := h j w o hw ho lane hl
        cases hb : w.2.getLsbD lane <;> simp_all

/-- DRAIN's condition. -/
theorem drained_iff (q : WriteQueue) : q.drained = true ↔ ∀ e ∈ q.entries, e.stage = .unclassified := by
  simp [WriteQueue.drained]

/-- The head's test changes at most the stage of the head. -/
theorem headReady_cases (d : Nat) (es : List Entry) :
    headReady d es = es ∨ ∃ e rest q, es = e :: rest ∧ e.stage = .waiting ∧ e.recordSeq = some q ∧ q < d ∧
      headReady d es = { e with stage := .ready } :: rest := by
  match es with
  | [] => exact .inl rfl
  | e :: rest =>
    by_cases h : e.stage = .waiting ∧ e.recordSeq.any (fun q => decide (q < d)) = true
    · cases hq : e.recordSeq with
      | none => simp [hq] at h
      | some q =>
        refine .inr ⟨e, rest, q, rfl, h.1, hq, by simpa [hq] using h.2, ?_⟩
        rw [headReady, if_pos h]
    · left; rw [headReady, if_neg h]

/-! ### Banks -/

/-- The bank found in a state is in it. -/
theorem bankIn_state {w : JournalWriter} {st : BankState} {b : Bool} (h : w.bankIn st = some b) :
    (w.bank b).state = st := by
  unfold JournalWriter.bankIn at h
  split at h
  · simp at h; subst h; simpa [JournalWriter.bank]
  · split at h
    · simp at h; subst h; simpa [JournalWriter.bank]
    · simp at h

/-- No bank is in a state. -/
theorem bankIn_none (w : JournalWriter) (st : BankState) : w.bankIn st = none ↔ ∀ b, (w.bank b).state ≠ st := by
  unfold JournalWriter.bankIn JournalWriter.bank
  by_cases h0 : w.bank0.state = st <;> by_cases h1 : w.bank1.state = st <;> simp [h0, h1]

@[simp] theorem bank_setBank (w : JournalWriter) (b : Bool) (k : Bank) : (w.setBank b k).bank b = k := by
  cases b <;> rfl

@[simp] theorem bank_setBank_not (w : JournalWriter) (b : Bool) (k : Bank) : (w.setBank b k).bank (!b) = w.bank (!b) := by
  cases b <;> rfl

/-- A bank can accept a record. -/
theorem canAccept_iff (w : JournalWriter) : w.canAccept = true ↔
    (∃ b, w.bankIn .filling = some b ∧ (w.bank b).records.length < 16) ∨
      (w.bankIn .filling = none ∧ w.bankIn .empty ≠ none) := by
  unfold JournalWriter.canAccept
  cases w.bankIn .filling with
  | none => simp [Option.isSome_iff_ne_none]
  | some b =>
    refine (decide_eq_true_iff (p := (w.bank b).records.length < 16)).trans ?_
    simp

/-- The seal test seals the FILLING bank beside an EMPTY one, or does nothing. -/
theorem sealTest_cases (s : State) :
    s.sealTest = s ∨ ∃ b, s.writer.bankIn .filling = some b ∧ s.ctl.resolving = false ∧
      (s.writer.bank (!b)).state = .empty ∧ s.sealWanted (s.writer.bank b) = true ∧
      s.sealTest = (s.withWriter (s.writer.sealed b)).bump .flushes := by
  unfold State.sealTest
  split
  · exact .inl rfl
  · rename_i b hb
    split
    · rename_i h
      simp only [Bool.and_eq_true, Bool.not_eq_true', beq_iff_eq] at h
      exact .inr ⟨b, hb, h.1.1, h.1.2, h.2, rfl⟩
    · exact .inl rfl

/-- The seal test touches the writer and one counter. -/
theorem sealTest_shape (s : State) :
    s.sealTest = { s with writer := s.sealTest.writer, counters := s.sealTest.counters } := by
  obtain h | ⟨b, -, -, -, -, h⟩ := sealTest_cases s
  · rw [h]
  · rw [h]; rfl

/-- The coalesce test starts the timer, expires it at once, or does nothing. -/
theorem coalesceTest_cases (s : State) :
    s.coalesceTest = s ∨
      (s.writer.coalesceTime ≠ 0 ∧
        s.coalesceTest = s.withWriter { s.writer with coalesceTimer := some s.writer.coalesceTime }) ∨
      (s.writer.coalesceTime = 0 ∧
        s.coalesceTest = (s.withWriter { s.writer with coalesceTimer := none, coalesceDemand := true }).sealTest) := by
  unfold State.coalesceTest
  split
  · split
    · rename_i h; exact .inr (.inr ⟨h, rfl⟩)
    · rename_i h; exact .inr (.inl ⟨h, rfl⟩)
  · exact .inl rfl

/-- The coalesce test touches the writer and one counter. -/
theorem coalesceTest_shape (s : State) :
    s.coalesceTest = { s with writer := s.coalesceTest.writer, counters := s.coalesceTest.counters } := by
  obtain h | ⟨-, h⟩ | ⟨-, h⟩ := coalesceTest_cases s
  · rw [h]
  · rw [h]; rfl
  · have k := sealTest_shape (s.withWriter { s.writer with coalesceTimer := none, coalesceDemand := true })
    rw [← h] at k
    conv_lhs => rw [k]
    rfl

/-- The tests of the write path touch the queue's head, the writer and one counter. -/
theorem writePath_shape (s : State) :
    s.writePath = { s with
      pwq := { s.pwq with entries := headReady s.writer.durable s.pwq.entries }
      writer := s.writePath.writer, counters := s.writePath.counters } := by
  have h1 : s.writePath = _ := coalesceTest_shape s.examineHead.sealTest
  have h2 := sealTest_shape s.examineHead
  rw [show s.examineHead.sealTest.coalesceTest = s.writePath from rfl] at h1
  generalize s.writePath = t at *
  generalize s.examineHead.sealTest = u at *
  conv_lhs => rw [h1]
  rw [h2]
  rfl

/-- The warning test sets WARN_LEVEL once, or does nothing. -/
theorem warnTest_cases (s : State) :
    s.warnTest = s ∨ (s.writer.warnArmed = true ∧ s.warnLevel ≠ 0 ∧ s.warnLevel ≤ s.writer.durable ∧
      s.warnTest = (s.withWriter { s.writer with warnArmed := false }).setCause .warnLevel) := by
  unfold State.warnTest
  split
  · rename_i h
    simp only [Bool.and_eq_true, bne_iff_ne, ne_eq, decide_eq_true_eq] at h
    exact .inr ⟨h.1.1, h.1.2, h.2, rfl⟩
  · exact .inl rfl

/-! ### Maps and regions -/

@[simp] theorem map_setMap (m : TouchMaps) (i : Bool) (t : TouchMap) : (m.setMap i t).map i = t := by cases i <;> rfl

@[simp] theorem map_setMap_not (m : TouchMaps) (i : Bool) (t : TouchMap) : (m.setMap i t).map (!i) = m.map (!i) := by
  cases i <;> rfl

@[simp] theorem exchanged_active (m : TouchMaps) (a b : TouchMap) : (m.exchanged a b).active = a := by
  unfold TouchMaps.exchanged TouchMaps.active; cases m.activeIndex <;> rfl

@[simp] theorem exchanged_inactive (m : TouchMaps) (a b : TouchMap) : (m.exchanged a b).inactive = b := by
  unfold TouchMaps.exchanged TouchMaps.inactive; cases m.activeIndex <;> rfl

@[simp] theorem exchanged_index (m : TouchMaps) (a b : TouchMap) : (m.exchanged a b).activeIndex = !m.activeIndex := by
  unfold TouchMaps.exchanged; cases m.activeIndex <;> rfl

/-- The bits after one is put in. -/
theorem mem_insertBit (i j : Nat) (l : List Nat) : j ∈ insertBit i l ↔ j = i ∨ j ∈ l := by
  induction l with
  | nil => simp [insertBit]
  | cons k rest ih =>
    unfold insertBit
    split
    · simp
    · split
      · rename_i h; simp [h]
      · simp [ih]; tauto

/-- Two runs of granules share one. -/
theorem runsOverlap_iff (b l : Nat) (g : Geometry) :
    runsOverlap b (b + l) (g.base / 32) ((g.base + g.size) / 32) = true ↔
      ∃ gr, b ≤ gr ∧ gr < b + l ∧ g.covers gr = true := by
  simp only [runsOverlap, Geometry.covers, decide_eq_true_eq, Bool.and_eq_true]
  constructor
  · intro h; exact ⟨max b (g.base / 32), by omega, by omega, by omega, by omega⟩
  · rintro ⟨gr, h1, h2, h3, h4⟩; omega

/-- A write is refused. -/
theorem writeRefused_iff (s : State) (g : Nat) : s.writeRefused g = true ↔
    (∃ i, s.classOf g = .frozen i) ∨ ((s.classOf g).isJournaled = true ∧
      (s.ctl.journal = .recoveryPending ∨ s.ctl.journal = .recoveryFault ∨ s.ctl.clearPending = true)) := by
  unfold State.writeRefused
  cases s.classOf g <;> simp [GranuleClass.isJournaled, or_assoc]

/-! ### Phases of the epoch controller -/

/-- SWEEP_WAIT, once entered, stands or passes into the anchor phase: the phase and the access change alone. -/
theorem enterSweepWait_shape (s : State) :
    s.enterSweepWait = { s with ctl := { s.ctl with
      phase := s.enterSweepWait.ctl.phase, work := s.enterSweepWait.ctl.work } } := by
  unfold State.enterSweepWait State.sweepWaitTest State.enterAnchorPhase
  split
  · split <;> rfl
  · rfl

/-- The anchor phase entered with the next epoch, or ANCHOR0 with epoch 0. -/
theorem enterAnchorPhase_cases (s : State) :
    ((s.ctl.op = some .format ∨ s.ctl.epochInEffect = 0xFFFFFFFF) ∧
        s.enterAnchorPhase = s.withPhase .anchor0 (.anchorWrite false (s.buildAnchor .anchor0 0))) ∨
      ((s.ctl.op ≠ some .format ∧ s.ctl.epochInEffect ≠ 0xFFFFFFFF) ∧
        s.enterAnchorPhase =
          s.withPhase .anchor (.anchorWrite false (s.buildAnchor .anchor (s.ctl.epochInEffect + 1)))) := by
  unfold State.enterAnchorPhase
  split
  · rename_i h; exact .inl ⟨h, rfl⟩
  · rename_i h; exact .inr ⟨not_or.1 h, rfl⟩

/-- WALK, once entered, reads the highest slot, or is over at once. -/
theorem enterWalk_cases (s : State) :
    (s.writer.durable = 0 ∧ s.enterWalk = (s.withWalkRemaining 0).enterSweepWait) ∨
      (s.writer.durable ≠ 0 ∧ s.enterWalk =
        (s.withWalkRemaining s.writer.durable).withPhase .walk (.walkReading (s.writer.durable - 1))) := by
  unfold State.enterWalk
  split
  · rename_i h; exact .inl ⟨h, rfl⟩
  · rename_i h; exact .inr ⟨h, rfl⟩

/-- What an entry's fate charges leaves the queue alone. -/
theorem chargeFate_pwq (s : State) (e : Entry) (f : Fate) : (s.chargeFate e f).pwq = s.pwq := by
  cases f
  · rfl
  · simp only [State.chargeFate, State.tableDiscardReport]
    rw [report_recorded _ _ (by simp) (by simp)]; rfl
  · rfl
  · rfl

/-- The queue after RESOLVE's entry. -/
theorem resolveQueue_pwq (s : State) :
    s.resolveQueue.pwq = { s.pwq with entries := s.pwq.entries.filterMap fun e => (s.fateOf e).kept? } := by
  have key : ∀ (l : List Entry) (t : State), (l.foldl (fun acc e => acc.chargeFate e (s.fateOf e)) t).pwq = t.pwq := by
    intro l
    induction l with
    | nil => exact fun _ => rfl
    | cons e rest ih => exact fun t => (ih _).trans (chargeFate_pwq t e _)
  exact key _ _

/-- The queue after a failed clear cycle's discards. -/
theorem discardLost_pwq (s : State) :
    s.discardLost.pwq = { s.pwq with entries := s.pwq.entries.filter fun e => !s.lostToClear e } := by
  have key : ∀ (l : List Entry) (t : State),
      (l.foldl (fun acc e => (acc.noteDeparture e.granule).bump .writesDiscarded) t).pwq = t.pwq := by
    intro l
    induction l with
    | nil => exact fun _ => rfl
    | cons e rest ih => exact fun t => (ih _).trans rfl
  exact key _ _

/-! ### The arbiter -/

/-- The request chosen stands. -/
theorem chosen_stands (s : State) (f : InFlight) (h : s.chosen = some f) : s.requestOf f.owner = some f.access := by
  unfold State.chosen at h
  obtain ⟨r, -, hr⟩ := List.exists_of_findSome?_eq_some h
  simp at hr
  obtain ⟨x, hx, rfl⟩ := hr
  exact hx

end Sys2Proof.Machine
end

