-- ==== Sys2Proof/Laws/Service.lean ====
section
/-! SUPPORT. How a service command runs, once for the fifteen: its frame, the request period that carries it, and the rule
that decides it. -/

namespace Sys2Proof.Machine

open Sys2Proof

/-- No request payload is longer than STAGE_REGION's 13 bytes. -/
theorem payload_length (c : ServiceCommand) : c.payload.length ≤ 13 := by
  cases c <;> simp [ServiceCommand.payload, StoredEntry.bytes, wordBytes, halfBytes]

/-- A request frame fits the receive buffer. -/
theorem encodeRequest_length (tag : Byte) (c : ServiceCommand) : (encodeRequest tag c).length ≤ 28 := by
  have := payload_length c
  simp [encodeRequest, withFrameCheck]; omega

/-- The bytes of a frame are collected whole. -/
theorem collect_encodeRequest (s : State) (tag : Byte) (c : ServiceCommand) (n : Nat) :
    s.collect (encodeRequest tag c) n = { s with service := { s.service with
      rxFrame := encodeRequest tag c, sdo := List.replicate n 0 } } := by
  unfold State.collect
  rw [List.take_of_length_le (show _ ≤ Config.receiveBytes from encodeRequest_length tag c)]

/-- The state once the request period of a command has been collected. -/
def State.heard (s : State) (tag : Byte) (c : ServiceCommand) : State :=
  { s with service := { s.service with
      rxFrame := encodeRequest tag c, sdo := List.replicate (1 + (encodeRequest tag c).length) 0 } }

@[simp] theorem heard_ctl (s : State) (tag : Byte) (c : ServiceCommand) : (s.heard tag c).ctl = s.ctl := rfl
@[simp] theorem heard_faults (s : State) (tag : Byte) (c : ServiceCommand) : (s.heard tag c).faults = s.faults := rfl
@[simp] theorem heard_writer (s : State) (tag : Byte) (c : ServiceCommand) : (s.heard tag c).writer = s.writer := rfl
@[simp] theorem heard_pwq (s : State) (tag : Byte) (c : ServiceCommand) : (s.heard tag c).pwq = s.pwq := rfl
@[simp] theorem heard_regions (s : State) (tag : Byte) (c : ServiceCommand) : (s.heard tag c).regions = s.regions := rfl
@[simp] theorem heard_maps (s : State) (tag : Byte) (c : ServiceCommand) : (s.heard tag c).maps = s.maps := rfl
@[simp] theorem heard_reads (s : State) (tag : Byte) (c : ServiceCommand) : (s.heard tag c).reads = s.reads := rfl
@[simp] theorem heard_port (s : State) (tag : Byte) (c : ServiceCommand) : (s.heard tag c).port = s.port := rfl
@[simp] theorem heard_mem (s : State) (tag : Byte) (c : ServiceCommand) : (s.heard tag c).mem = s.mem := rfl
@[simp] theorem heard_response (s : State) (tag : Byte) (c : ServiceCommand) :
    (s.heard tag c).service.response = s.service.response := rfl
@[simp] theorem heard_capacity (s : State) (tag : Byte) (c : ServiceCommand) : (s.heard tag c).capacity = s.capacity := rfl

/-- Out of RESET a command runs as the request period that carries it. -/
theorem exec_toInstr (tag : Byte) (c : ServiceCommand) (s : State) (h : s.inReset = false) :
    exec (c.toInstr tag) s = .next (s.serviceRequest tag c) := by
  cases c <;> exact congrArg Host.Outcome.next (if_neg (by simp [h]))

/-- A request period that carries a command: dropped while the response is PENDING, and otherwise executed. -/
theorem serviceRequest_eq (s : State) (tag : Byte) (c : ServiceCommand) :
    s.serviceRequest tag c =
      if s.service.response.result = .pending then (s.heard tag c).bump .serviceDropped
      else ((s.heard tag c).execute c).answer tag := by
  simp only [State.serviceRequest, collect_encodeRequest, State.unlessPending, State.heard]

/-- A command is decided by its rule. -/
theorem exec_served (s : State) (tag : Byte) (c : ServiceCommand) (h : s.servesCommands) :
    exec (c.toInstr tag) s = .next (((s.heard tag c).ruleOf c).answer tag) := by
  obtain ⟨h1, h2, h3⟩ := h
  rw [exec_toInstr _ _ _ h1, serviceRequest_eq, if_neg h2]
  simp [State.execute, h3]

/-- A reading is decided by its rule in STARTING too. -/
theorem exec_reading (s : State) (tag : Byte) (c : ServiceCommand) (h1 : s.inReset = false)
    (h2 : s.service.response.result ≠ .pending) (h3 : inStart c = true) :
    exec (c.toInstr tag) s = .next (((s.heard tag c).ruleOf c).answer tag) := by
  rw [exec_toInstr _ _ _ h1, serviceRequest_eq, if_neg h2]
  simp [State.execute, h3]

/-- The answer of a command refused. -/
theorem refuse_answer (s : State) (tag : Byte) (c : ServiceCommand) (r : Result) :
    ((s.heard tag c).refuse r).answer tag = s.replied tag c r [] := by
  cases r <;> rfl

/-- A warning level in range. -/
theorem warningInRange_iff (s : State) (w : Word) :
    s.warningInRange w = true ↔ w = 0 ∨ (s.ctl.geometry.isSome = true ∧ w.toNat ≤ s.capacity) := by
  simp [State.warningInRange]

/-- R10, checks 3 to 6. -/
theorem stagePlaceable_iff (s : State) (m : RegionMode) (hm : m ≠ .off) (b l : Nat) (e : Bool) :
    s.stagePlaceable ⟨m, b, l, e⟩ = true ↔
      1 ≤ l ∧ l ≤ 65536 ∧ b + l ≤ 8388608 ∧ 8 ≤ b ∧
        ∀ g, s.ctl.geometry = some g → ∀ gr, b ≤ gr → gr < b + l → g.covers gr = false := by
  unfold State.stagePlaceable Config.touchBits Config.granules
  simp only [Bool.and_eq_true, decide_eq_true_eq, RegionEntry.overlapsArea]
  constructor
  · rintro ⟨⟨⟨⟨h1, h2⟩, h3⟩, h4⟩, h5⟩
    refine ⟨h1, h2, h3, h4, ?_⟩
    intro g hg gr ha hb
    by_contra hx
    have := (runsOverlap_iff b l g).2 ⟨gr, ha, hb, by simpa using hx⟩
    simp [hg, this, hm] at h5
  · rintro ⟨h1, h2, h3, h4, h5⟩
    refine ⟨⟨⟨⟨h1, h2⟩, h3⟩, h4⟩, ?_⟩
    cases hg : s.ctl.geometry with
    | none => simp
    | some g =>
      simp only [Option.any_some, Bool.not_eq_true']
      by_contra hx
      simp at hx
      obtain ⟨gr, a, b, c⟩ := (runsOverlap_iff b l g).1 hx.2
      have := h5 g hg gr a b
      simp_all

end Sys2Proof.Machine
end

