-- ==== Sys2Proof/WellFormed.lean ====
section
/-! DEFINITION. Which commands their senders can form. Most operands have their range in their type; the checks
here are the rest. `exec` does not consult them: a command no sender can form still has an outcome. -/

namespace Sys2Proof

/-- R17: a host request's address is a word address and its length is 1 to 8 words. -/
def hostRequestFormed (addr : BitVec 28) (len : Nat) : Bool :=
  addr.toNat % 4 == 0 && 1 ≤ len && len ≤ 8

/-- R161: an access has at most 16 words, so an answer has at most as many words or bytes. -/
def ReadAnswer.formed : ReadAnswer → Bool
  | .okay seen => seen.length ≤ 16
  | .error => true

/-- R161: the bytes of a write are at most 64. -/
def WriteAnswer.formed : WriteAnswer → Bool
  | .okay => true
  | .error left => left.length ≤ 64

/-- The operands of a command are ones its sender can form (R17, R161). -/
def Instr.wellFormed : Instr → Bool
  | .hostRead _ addr len => hostRequestFormed addr len
  | .hostWrite _ addr len data => hostRequestFormed addr len && data.length == len
  | .resetAsserted left => left.length ≤ 64
  | .resetReleased => true
  | .pfailAsserted => true
  | .pfailDeasserted => true
  | .getStatus _ => true
  | .getFault _ => true
  | .clearFault _ => true
  | .getCounters _ => true
  | .clearCounters _ => true
  | .setTuning _ _ _ _ _ _ => true
  | .stageRegion _ _ _ => true
  | .getRegion _ _ _ => true
  | .format _ _ _ => true
  | .checkpoint _ => true
  | .adopt _ => true
  | .rollback _ => true
  | .resume _ => true
  | .peekRecord _ _ => true
  | .clearAttention _ _ => true
  | .responseFetch _ => true
  | .memoryGrant => true
  | .classifierTake => true
  | .oldDataReadDone answer => answer.formed
  | .coalesceTimerExpiry => true
  | .recordWriteDone answer => answer.formed
  | .commitWriteDone answer => answer.formed
  | .fetchDone answer => answer.formed
  | .slotDiscardTimerExpiry _ => true
  | .peekReadDone answer => answer.formed
  | .sweepEnd => true
  | .anchorReadDone answer => answer.formed
  | .anchorWriteDone answer => answer.formed
  | .anchorReadBackDone answer => answer.formed
  | .clearWriteDone answer => answer.formed
  | .scanReadDone answer => answer.formed
  | .walkReadDone answer => answer.formed
  | .walkWriteDone answer => answer.formed
  | .requestFrame _ => true

end Sys2Proof
end

