-- ==== Sys2Proof/Laws/PerInstr.lean ====
section
/-! SUPPORT. What holds of every command as syntax, one lemma for each constructor: a row that a request frame can carry
has a code of R100's table and a payload that R99 allows. -/

namespace Sys2Proof.Laws

open Sys2Proof.Machine

/-- R99, R100: the service command that a row is, if it is one, has a code of the table and a payload of at most 24
bytes. -/
def FramedCommand.Statement (i : Instr) : Prop :=
  ∀ (tag : Byte) (c : ServiceCommand), i = c.toInstr tag → knownCode c.code = true ∧ c.payload.length ≤ 24

/-- Every service command has. -/
theorem framed_of_command (c : ServiceCommand) : knownCode c.code = true ∧ c.payload.length ≤ 24 :=
  ⟨by cases c <;> rfl, (payload_length c).trans (by decide)⟩

theorem FramedCommand.hostRead (master : BitVec 3) (addr : BitVec 28) (len : Nat) :
    FramedCommand.Statement (.hostRead master addr len) :=
  fun _ c _ => framed_of_command c

theorem FramedCommand.hostWrite (master : BitVec 3) (addr : BitVec 28) (len : Nat) (data : List LaneWord) :
    FramedCommand.Statement (.hostWrite master addr len data) :=
  fun _ c _ => framed_of_command c

theorem FramedCommand.resetAsserted (left : List Byte) : FramedCommand.Statement (.resetAsserted left) :=
  fun _ c _ => framed_of_command c

theorem FramedCommand.resetReleased : FramedCommand.Statement .resetReleased :=
  fun _ c _ => framed_of_command c

theorem FramedCommand.pfailAsserted : FramedCommand.Statement .pfailAsserted :=
  fun _ c _ => framed_of_command c

theorem FramedCommand.pfailDeasserted : FramedCommand.Statement .pfailDeasserted :=
  fun _ c _ => framed_of_command c

theorem FramedCommand.getStatus (tag : Byte) : FramedCommand.Statement (.getStatus tag) :=
  fun _ c _ => framed_of_command c

theorem FramedCommand.getFault (tag : Byte) : FramedCommand.Statement (.getFault tag) :=
  fun _ c _ => framed_of_command c

theorem FramedCommand.clearFault (tag : Byte) : FramedCommand.Statement (.clearFault tag) :=
  fun _ c _ => framed_of_command c

theorem FramedCommand.getCounters (tag : Byte) : FramedCommand.Statement (.getCounters tag) :=
  fun _ c _ => framed_of_command c

theorem FramedCommand.clearCounters (tag : Byte) : FramedCommand.Statement (.clearCounters tag) :=
  fun _ c _ => framed_of_command c

theorem FramedCommand.setTuning (tag threshold : Byte) (coalesce discard : BitVec 16) (warning : Word) (mask : Byte) :
    FramedCommand.Statement (.setTuning tag threshold coalesce discard warning mask) :=
  fun _ c _ => framed_of_command c

theorem FramedCommand.stageRegion (tag index : Byte) (entry : StoredEntry) :
    FramedCommand.Statement (.stageRegion tag index entry) :=
  fun _ c _ => framed_of_command c

theorem FramedCommand.getRegion (tag copy index : Byte) : FramedCommand.Statement (.getRegion tag copy index) :=
  fun _ c _ => framed_of_command c

theorem FramedCommand.format (tag : Byte) (base size : Word) : FramedCommand.Statement (.format tag base size) :=
  fun _ c _ => framed_of_command c

theorem FramedCommand.checkpoint (tag : Byte) : FramedCommand.Statement (.checkpoint tag) :=
  fun _ c _ => framed_of_command c

theorem FramedCommand.adopt (tag : Byte) : FramedCommand.Statement (.adopt tag) :=
  fun _ c _ => framed_of_command c

theorem FramedCommand.rollback (tag : Byte) : FramedCommand.Statement (.rollback tag) :=
  fun _ c _ => framed_of_command c

theorem FramedCommand.resume (tag : Byte) : FramedCommand.Statement (.resume tag) :=
  fun _ c _ => framed_of_command c

theorem FramedCommand.peekRecord (tag : Byte) (slot : Word) : FramedCommand.Statement (.peekRecord tag slot) :=
  fun _ c _ => framed_of_command c

theorem FramedCommand.clearAttention (tag mask : Byte) : FramedCommand.Statement (.clearAttention tag mask) :=
  fun _ c _ => framed_of_command c

theorem FramedCommand.responseFetch (clocked : Nat) : FramedCommand.Statement (.responseFetch clocked) :=
  fun _ c _ => framed_of_command c

theorem FramedCommand.memoryGrant : FramedCommand.Statement .memoryGrant :=
  fun _ c _ => framed_of_command c

theorem FramedCommand.classifierTake : FramedCommand.Statement .classifierTake :=
  fun _ c _ => framed_of_command c

theorem FramedCommand.oldDataReadDone (answer : ReadAnswer) : FramedCommand.Statement (.oldDataReadDone answer) :=
  fun _ c _ => framed_of_command c

theorem FramedCommand.coalesceTimerExpiry : FramedCommand.Statement .coalesceTimerExpiry :=
  fun _ c _ => framed_of_command c

theorem FramedCommand.recordWriteDone (answer : WriteAnswer) : FramedCommand.Statement (.recordWriteDone answer) :=
  fun _ c _ => framed_of_command c

theorem FramedCommand.commitWriteDone (answer : WriteAnswer) : FramedCommand.Statement (.commitWriteDone answer) :=
  fun _ c _ => framed_of_command c

theorem FramedCommand.fetchDone (answer : ReadAnswer) : FramedCommand.Statement (.fetchDone answer) :=
  fun _ c _ => framed_of_command c

theorem FramedCommand.slotDiscardTimerExpiry (slot : Fin 4) :
    FramedCommand.Statement (.slotDiscardTimerExpiry slot) :=
  fun _ c _ => framed_of_command c

theorem FramedCommand.peekReadDone (answer : ReadAnswer) : FramedCommand.Statement (.peekReadDone answer) :=
  fun _ c _ => framed_of_command c

theorem FramedCommand.sweepEnd : FramedCommand.Statement .sweepEnd :=
  fun _ c _ => framed_of_command c

theorem FramedCommand.anchorReadDone (answer : ReadAnswer) : FramedCommand.Statement (.anchorReadDone answer) :=
  fun _ c _ => framed_of_command c

theorem FramedCommand.anchorWriteDone (answer : WriteAnswer) : FramedCommand.Statement (.anchorWriteDone answer) :=
  fun _ c _ => framed_of_command c

theorem FramedCommand.anchorReadBackDone (answer : ReadAnswer) :
    FramedCommand.Statement (.anchorReadBackDone answer) :=
  fun _ c _ => framed_of_command c

theorem FramedCommand.clearWriteDone (answer : WriteAnswer) : FramedCommand.Statement (.clearWriteDone answer) :=
  fun _ c _ => framed_of_command c

theorem FramedCommand.scanReadDone (answer : ReadAnswer) : FramedCommand.Statement (.scanReadDone answer) :=
  fun _ c _ => framed_of_command c

theorem FramedCommand.walkReadDone (answer : ReadAnswer) : FramedCommand.Statement (.walkReadDone answer) :=
  fun _ c _ => framed_of_command c

theorem FramedCommand.walkWriteDone (answer : WriteAnswer) : FramedCommand.Statement (.walkWriteDone answer) :=
  fun _ c _ => framed_of_command c

theorem FramedCommand.requestFrame (period : List Byte) : FramedCommand.Statement (.requestFrame period) :=
  fun _ c _ => framed_of_command c

end Sys2Proof.Laws
end

