-- ==== Sys2Proof/Tests/Slice0.lean ====
section
/-! SUPPORT. The model's own tests. Expected results come from the manual's rules, tables and worked examples, named in each
docstring, and frame check codes from a hand computation by R99's steps. The second half holds, for each statement with
hypotheses, a state and operands that meet them. -/

namespace Sys2Proof.Tests

/- Kernel evaluations wait for one another, so they are elaborated one after another. -/
set_option Elab.async false

open Sys2Proof Sys2Proof.Machine

/-! ### States -/

/-- The record area of the worked example of 01_protected_regions_and_the_address_map.md: 4 MiB, 64 KiB. -/
def area : Geometry := ⟨4194304, 65536⟩

/-- The table of that example. -/
def table : Table :=
  ((Table.allOff.set 0 ⟨.journaled, 128, 1000, false⟩).set 1 ⟨.frozen, 2048, 512, false⟩).set 2
    ⟨.journaled, 4096, 500, true⟩

/-- READY in epoch 7 with that area and table, and every queue, bank and slot empty. -/
def up : State := { State.reset with
  inReset := false
  regions := ⟨table, table⟩
  maps := ⟨false, ⟨[], .live⟩, ⟨[], .clean⟩⟩
  ctl := { EpochController.reset with
    journal := .ready, newest := some .a, generation := 12, epoch := 7, geometry := some area } }

/-- Start-up in a phase with an access of the epoch controller. -/
def starting (p : Phase) (w : EpochWork) : State :=
  { up with ctl := { up.ctl with journal := .starting, phase := p, work := w } }

/-- A long operation in a phase with an access of the epoch controller. -/
def during (k : OpKind) (p : Phase) (w : EpochWork) : State :=
  { up with ctl := { up.ctl with op := some k, phase := p, work := w, freeze := true } }

/-- A write of one word with all enables to a granule, at a stage. -/
def ent (granule : Nat) (st : Stage) : Entry := ⟨9, 1, granule, 0, 1, [(0xAABBCCDD, 0xF)], st, none, none, none⟩

/-- A write that waits on record `q`. -/
def waits (q : Nat) : Entry := { ent 128 .waiting with recordSeq := some q, classEpoch := some 7, region := some 0 }

/-- A record of epoch 7 for granule 128. -/
def journaled (q : Nat) : JournalRecord := ⟨7, q, 128, 0, 1, List.replicate 8 0⟩

/-- A bank of records with sequences from `q`. -/
def bankOf (st : BankState) (q n : Nat) : Bank := ⟨st, (List.range n).map fun i => journaled (q + i)⟩

/-- `up` with entries in the queue. -/
def queued (es : List Entry) : State := up.withEntries es

/-- `up` with an access in flight. -/
def flying (s : State) (r : Requester) (a : Access) : State := s.withPort (some ⟨r, a⟩)

/-- `up` with slot 0 in a state. -/
def slot0 (sl : Slot) : State := up.withReads (up.reads.setSlot 0 sl)

/-- The next state of a command. -/
def nextOf (o : Host.Outcome State Fault Refusal) : Option State :=
  match o with
  | .next t => some t
  | _ => none

/-- Something of the next state of a command. -/
def after {α : Type} (c : Instr) (s : State) (f : State → α) : Option α := (nextOf (exec c s)).map f

/-! ### Well-formed commands (R17, R161) -/

theorem test_wellFormed_read : (Instr.hostRead 0 0 8).wellFormed = true := by decide +kernel
theorem test_illFormed_read_address : (Instr.hostRead 0 2 1).wellFormed = false := by decide +kernel
theorem test_illFormed_read_long : (Instr.hostRead 0 0 9).wellFormed = false := by decide +kernel
theorem test_illFormed_read_empty : (Instr.hostRead 0 0 0).wellFormed = false := by decide +kernel
theorem test_illFormed_write_data : (Instr.hostWrite 0 0 2 [(0, 0xF)]).wellFormed = false := by decide +kernel
theorem test_illFormed_write_address : (Instr.hostWrite 0 1 1 [(0, 0xF)]).wellFormed = false := by decide +kernel
theorem test_illFormed_reset : (Instr.resetAsserted (List.replicate 65 0)).wellFormed = false := by decide +kernel
theorem test_illFormed_read_answer : (Instr.fetchDone (.okay (List.replicate 17 0))).wellFormed = false := by decide +kernel
theorem test_illFormed_write_answer : (Instr.commitWriteDone (.error (List.replicate 65 0))).wellFormed = false := by
  decide +kernel
theorem test_wellFormed_answers : (Instr.scanReadDone (.okay (List.replicate 12 0))).wellFormed = true ∧
    (Instr.walkWriteDone (.error (List.replicate 64 0))).wellFormed = true := by decide +kernel

/-! ### Table words -/

/-- No row of the table has bits, so no word spells a command and `withFetchWord` leaves the state. -/
theorem test_no_table_word : decodeTableWord 32 0x11 = none ∧ up.withFetchWord 32 0x11 = up := ⟨rfl, rfl⟩

/-! ### Frames and check codes (R94, R99, R100) -/

/-- R99's check value. -/
theorem test_crc8 : crc8 [0x31, 0x32, 0x33, 0x34, 0x35, 0x36, 0x37, 0x38, 0x39] = 0xF4 := by decide +kernel
/-- R94's check value. -/
theorem test_crc32 : crc32 [0x31, 0x32, 0x33, 0x34, 0x35, 0x36, 0x37, 0x38, 0x39] = 0xCBF43926 := by decide +kernel
theorem test_frame_getStatus : decodeRequest [0x01, 0x5A, 0x00, 0xE5] = .command 0x5A .getStatus := by decide +kernel
theorem test_frame_clearFault : decodeRequest [0x03, 0x10, 0x00, 0xEA] = .command 0x10 .clearFault := by decide +kernel
/-- Threshold 4, coalesce time 20, discard time 2,000, warning DEFAULT, mask 0xFF. -/
theorem test_frame_setTuning : decodeRequest
    [0x06, 0x12, 0x0A, 0x04, 0x14, 0x00, 0xD0, 0x07, 0x00, 0x00, 0x00, 0x00, 0xFF, 0x37] =
      .command 0x12 (.setTuning 4 20 2000 0 0xFF) := by decide +kernel
/-- Command 2 of the worked example of chapter 1: entry 5, JOURNALED, base 1,100, length 30,000, elide set. -/
theorem test_frame_stageRegion : decodeRequest
    [0x07, 0x13, 0x0D, 0x05, 0x4C, 0x04, 0x00, 0x00, 0x30, 0x75, 0x00, 0x00, 0x01, 0x01, 0x00, 0x00, 0x4D] =
      .command 0x13 (.stageRegion 5 ⟨1100, 30000, 1, 1, 0⟩) := by decide +kernel
theorem test_frame_getRegion : decodeRequest [0x08, 0x14, 0x02, 0x00, 0x02, 0xFE] = .command 0x14 (.getRegion 0 2) := by
  decide +kernel
theorem test_frame_format : decodeRequest
    [0x10, 0x15, 0x08, 0x00, 0x00, 0x40, 0x00, 0x00, 0x00, 0x01, 0x00, 0x08] =
      .command 0x15 (.format 4194304 65536) := by decide +kernel
theorem test_frame_checkpoint : decodeRequest [0x11, 0x16, 0x00, 0xE0] = .command 0x16 .checkpoint := by decide +kernel
theorem test_frame_peekRecord : decodeRequest [0x20, 0x17, 0x04, 0x06, 0x00, 0x00, 0x00, 0x1B] =
    .command 0x17 (.peekRecord 6) := by decide +kernel
theorem test_frame_clearAttention : decodeRequest [0x21, 0x22, 0x01, 0xA0, 0x31] =
    .command 0x22 (.clearAttention 0xA0) := by decide +kernel
/-- A bad check code, an unknown code, and a length the code does not have. -/
theorem test_frames_bad : decodeRequest [0x11, 0x16, 0x00, 0xE1] = .malformed 0x16 ∧
    decodeRequest [0x30, 0x22, 0x00, 0x65] = .unknown 0x22 ∧
    decodeRequest [0x11, 0x16] = .malformed 0x16 ∧ decodeRequest [0x11] = .malformed 0 := by decide +kernel

/-! ### Addresses, touch indices and formats -/

/-- The worked example of chapter 1. -/
theorem test_touch_indices : lookup table (some area) 4103 = .journaled 2 1007 true ∧
    lookup table (some area) 1127 = .journaled 0 999 false ∧ lookup table (some area) 1128 = .unprotected ∧
    lookup table (some area) 2048 = .frozen 1 ∧ lookup table (some area) 7 = .anchor ∧
    lookup table (some area) 131072 = .recordArea ∧ lookup table (some area) 133119 = .recordArea ∧
    lookup table (some area) 133120 = .unprotected ∧ area.capacity = 1365 := by decide +kernel
/-- The table the example ends with is legal, and the one with entries 4 and 5 of commands 2 and 3 is not. -/
theorem test_table_legal :
    (Table.legal ((table.set 4 ⟨.journaled, 40000, 40000, false⟩).set 5 ⟨.journaled, 5000, 20000, true⟩) area = true) ∧
    (Table.legal ((table.set 4 ⟨.journaled, 40000, 40000, false⟩).set 5 ⟨.journaled, 1100, 30000, true⟩) area = false) ∧
    touchOffset ((table.set 4 ⟨.journaled, 40000, 40000, false⟩).set 5 ⟨.journaled, 5000, 20000, true⟩) 5 = 41500 := by
  decide +kernel
/-- Cases 1, 2 and 4 of the worked example of R97. -/
theorem test_newer : newer 40 41 = false ∧ newer 41 40 = true ∧ newer 0 4294967295 = true ∧ newer 2147483655 7 = false ∧
    newer 7 2147483655 = false := by decide +kernel
/-- The origin word of the worked example of R98. -/
theorem test_origin : (JournalRecord.origin ⟨12, 5, 131303, 2, 1, []⟩).toNat = 84017383 ∧
    originGranule 84017383 = 131303 ∧ originMaster 84017383 = 1 := by decide +kernel
/-- The verdicts of that example for a record of epoch 11 in slot 5. -/
theorem test_verdicts :
    verdictOf (JournalRecord.words ⟨11, 5, 131303, 2, 1, List.replicate 8 0⟩) 12 5 = .epoch ∧
    verdictOf (JournalRecord.words ⟨12, 5, 131303, 2, 1, List.replicate 8 0⟩) 12 5 = .valid ∧
    verdictOf (JournalRecord.words ⟨12, 5, 131303, 2, 1, List.replicate 8 0⟩) 12 6 = .sequence := by decide +kernel

/-! ### One step of each command -/

/-- R147: a first read takes slot 0 and is answered RETRY. -/
theorem test_hostRead : after (.hostRead 1 4096 2) up (fun t => (t.reads.slots[0], t.host.response, t.counter .retriesRead)) =
    some (.fetchPending ⟨1, 4096, 2⟩, some .retry, 1) := by decide +kernel
/-- R19: a request of three words is malformed. -/
theorem test_hostRead_malformed : after (.hostRead 1 4096 3) up (fun t => (t.host.response, t.counter .requestsRefused)) =
    some (some .error, 1) := by decide +kernel
/-- R26: an accepted write takes the next number and stands UNCLASSIFIED. -/
theorem test_hostWrite : after (.hostWrite 2 4100 1 [(5, 0x3)]) up (fun t => (t.pwq.entries, t.host)) =
    some ([⟨0, 2, 128, 1, 1, [(5, 0x3)], .unclassified, none, none, none⟩], ⟨1, some .okay⟩) := by decide +kernel
/-- R24: a write to FROZEN granule 2,048 is refused. -/
theorem test_hostWrite_frozen : after (.hostWrite 2 65536 1 [(5, 0xF)]) up (fun t => (t.host.response, t.pwq.entries)) =
    some (some .error, []) := by decide +kernel
/-- R8, R33: RESET empties the queue and zeroes the acceptance number. -/
theorem test_resetAsserted : after (.resetAsserted []) (queued [ent 9 .ready]) (fun t => (t.pwq.entries, t.host.nextNumber,
    t.ctl.journal)) = some ([], 0, .starting) := by decide +kernel
/-- R123: start-up begins in MAP_SWEEP. -/
theorem test_resetReleased : after .resetReleased State.reset (fun t => (t.ctl.phase, t.inReset)) =
    some (.mapSweep, false) := by decide +kernel
/-- R177: a hold over an empty part is quiet at once. -/
theorem test_pfailAsserted : after .pfailAsserted up (fun t => (t.faults.hold, t.faults.pfquiet, t.service.causes)) =
    some (true, true, 0x40) := by decide +kernel
theorem test_pfailDeasserted : after .pfailDeasserted { up with faults := { up.faults with hold := true, pfquiet := true } }
    (fun t => (t.faults.hold, t.faults.pfquiet)) = some (false, false) := by decide +kernel
/-- R101: READY is 4 at offset 0, the epoch 7 at offset 12, the capacity 1,365 = 0x0555 at offset 28. -/
theorem test_getStatus : after (.getStatus 3) up (fun t => (t.service.response.payload.take 16,
    (t.service.response.payload.drop 28).take 4)) =
      some ([4, 4, 0, 0, 0, 0, 0, 0, 0, 0, 0, 0, 7, 0, 0, 0], [0x55, 5, 0, 0]) := by decide +kernel
/-- R101: kind FLUSH 3, source the journal writer 2, all four fields present. -/
theorem test_getFault : after (.getFault 3) { up with faults := { up.faults with
    record := some ⟨.flush, .journalWriter, some 128, some 1, some 7, some 6⟩, laterFaults := 258 } }
      (fun t => t.service.response.payload) =
        some [3, 2, 15, 1, 128, 0, 0, 0, 7, 0, 0, 0, 6, 0, 0, 0, 2, 1] := by decide +kernel
theorem test_clearFault : after (.clearFault 3) { up with faults := { up.faults with
    record := some ⟨.flush, .journalWriter, none, none, none, none⟩, laterFaults := 2 } }
      (fun t => (t.faults.record, t.faults.laterFaults, t.service.response)) =
        some (none, 0, ⟨3, .ok, []⟩) := by decide +kernel
/-- R100: counter 4, RETRIES_READ, stands at offset 16. -/
theorem test_getCounters : after (.getCounters 3) (up.bump .retriesRead) (fun t =>
    ((t.service.response.payload.drop 16).take 4, t.service.response.payload.length)) =
      some ([1, 0, 0, 0], 64) := by decide +kernel
theorem test_clearCounters : after (.clearCounters 3) (up.bump .flushes) (fun t => t.counter .flushes) = some 0 := by
  decide +kernel
/-- R185: a threshold of 17 is out of range, and nothing is changed. -/
theorem test_setTuning_range : after (.setTuning 3 17 20 2000 0 0) up (fun t => (t.service.response.result,
    t.service.mask)) = some (.badArgument, 0xFF) := by decide +kernel
/-- R77: a lower threshold seals a bank of three. -/
theorem test_setTuning_seal : after (.setTuning 3 3 20 2000 0 0) (up.withWriter { up.writer with
    bank0 := bankOf .filling 0 3, nextSeq := 3 }) (fun t => (t.writer.bank0.state, t.writer.lastSealed)) =
      some (.flushing, some false) := by decide +kernel
/-- Command 1 of the worked example of chapter 1: the entry overlaps the record area. -/
theorem test_stageRegion_area : after (.stageRegion 3 5 ⟨131000, 100, 1, 0, 0⟩) up (fun t =>
    (t.service.response.result, t.regions.staged[5])) = some (.badArgument, RegionEntry.unused) := by decide +kernel
/-- Command 2 of that example. -/
theorem test_stageRegion : after (.stageRegion 3 5 ⟨1100, 30000, 1, 1, 0⟩) up (fun t =>
    (t.service.response.result, t.regions.staged[5], t.regions.active[5])) =
      some (.ok, ⟨.journaled, 1100, 30000, true⟩, RegionEntry.unused) := by decide +kernel
/-- Step 7 of the worked example of chapter 12. -/
theorem test_getRegion_copy : after (.getRegion 0x23 2 0) up (fun t => t.service.response) =
    some ⟨0x23, .badArgument, []⟩ := by decide +kernel
theorem test_getRegion : after (.getRegion 3 0 2) up (fun t => t.service.response.payload) =
    some [0, 0x10, 0, 0, 0xF4, 1, 0, 0, 1, 1, 0, 0] := by decide +kernel
/-- R3, R105: a size of 12,288 is below the least. -/
theorem test_format_size : after (.format 3 4194304 12288) up (fun t => t.service.response.result) =
    some .badArgument := by decide +kernel
/-- R118: an admitted FORMAT of an idle part reaches ANCHOR0. -/
theorem test_format : after (.format 3 8388608 65536) up (fun t => (t.service.response.result, t.ctl.phase)) =
    some (.accepted, .anchor0) := by decide +kernel
/-- The CHECKPOINT of the worked example of chapter 1, over overlapping entries. -/
theorem test_checkpoint_invalid : after (.checkpoint 3) { up with regions :=
    ⟨table, table.set 5 ⟨.journaled, 1100, 30000, true⟩⟩ } (fun t => (t.service.response.result, t.ctl.op)) =
      some (.tableInvalid, none) := by decide +kernel
/-- R108 to R110: an idle part with a CLEAN inactive map passes at once to ANCHOR, epoch 8, generation 13. -/
theorem test_checkpoint : after (.checkpoint 3) up (fun t => (t.ctl.phase, t.ctl.freeze, t.ctl.work)) =
    some (.anchor, true, .anchorWrite false ⟨13, 8, .committed, area, table⟩) := by decide +kernel
theorem test_adopt_ready : after (.adopt 3) up (fun t => t.service.response.result) = some .badState := by decide +kernel
theorem test_adopt : after (.adopt 3) { up with ctl := { up.ctl with journal := .recoveryPending } }
    (fun t => (t.ctl.phase, t.ctl.freeze)) = some (.anchor, false) := by decide +kernel
/-- R134, R135: the JOURNALED entry is discarded, and the UNPROTECTED one becomes READY. -/
theorem test_rollback : after (.rollback 3) (queued [ent 128 .unclassified, ent 5000 .unclassified])
    (fun t => (t.ctl.phase, t.pwq.entries.map fun e => (e.granule, e.stage))) =
      some (.resolve, [(5000, .ready)]) := by decide +kernel
/-- R119: RESUME of a HELD classifier asks for its read again. -/
theorem test_resume : after (.resume 3) { (queued [ent 128 .classifying]).withClassifier (.held ⟨128, 1, 0, 0, false⟩) with
    ctl := { up.ctl with journal := .halted } } (fun t => (t.ctl.phase, t.pwq.classifier)) =
      some (.reissue, .reading ⟨128, 1, 0, 0, false⟩) := by decide +kernel
/-- R187: slot 6 lies at the base + 48 × 6. -/
theorem test_peekRecord : after (.peekRecord 0x20 6) up (fun t => (t.service.response, t.service.peekRead)) =
    some (⟨0x20, .pending, []⟩, some ⟨6, 4194592⟩) := by decide +kernel
/-- Step 6 of the worked example of chapter 12. -/
theorem test_clearAttention : after (.clearAttention 0x22 0xA0) { up with service := { up.service with causes := 0xA0 } }
    (fun t => (t.service.causes, t.attn)) = some (0, false) := by decide +kernel
/-- R182: the response held after RESET, one byte more than the frame clocked. -/
theorem test_responseFetch : after (.responseFetch 5) up (fun t => t.service.sdo) = some [0, 0, 0, 0, 0, 0] := by
  decide +kernel
/-- R151, R163: a FETCH_PENDING slot is granted. -/
theorem test_memoryGrant : after .memoryGrant (slot0 (.fetchPending ⟨1, 4096, 2⟩)) (fun t => (t.reads.slots[0], t.port)) =
    some (.fetching ⟨1, 4096, 2⟩ false, some ⟨.readSlot 0, .read 4096 2⟩) := by decide +kernel
/-- An access that the part never forms (R161). -/
theorem test_memoryGrant_outside : exec .memoryGrant (slot0 (.fetchPending ⟨1, 268435452, 2⟩)) =
    .fault .outsideAddressSpace := by rfl
/-- R43, R45: the oldest UNCLASSIFIED entry needs a record. -/
theorem test_classifierTake : after .classifierTake (queued [ent 9 .ready, ent 4103 .unclassified]) (fun t =>
    (t.pwq.classifier, t.pwq.entries.map Entry.stage)) =
      some (.reading ⟨4103, 1, 2, 1007, true⟩, [.ready, .classifying]) := by decide +kernel
/-- R39: a FROZEN granule at classification. -/
theorem test_classifierTake_discard : after .classifierTake (queued [ent 2048 .unclassified]) (fun t =>
    (t.pwq.entries, t.faults.record.map FaultReport.kind, t.counter .writesDiscarded)) =
      some ([], some .tableDiscard, 1) := by decide +kernel
/-- R47, R63, R71: the record is built, its touch bit set, and the coalesce timer starts for the WAITING head (R78). -/
theorem test_oldDataReadDone : after (.oldDataReadDone (.okay [1])) (flying ((queued [ent 128 .classifying]).withClassifier
    (.reading ⟨128, 1, 0, 0, false⟩)) .classifier (.read 4096 8)) (fun t => (t.writer.bank0.records.map JournalRecord.old,
      t.maps.active.setBits, t.writer.coalesceTimer)) =
        some ([[1, 0, 0, 0, 0, 0, 0, 0]], [0], some 20) := by decide +kernel
/-- R46: with elide set and every enabled byte as before, the entry goes. -/
theorem test_oldDataReadDone_elide : after (.oldDataReadDone (.okay [0xAABBCCDD])) (flying ((queued
    [ent 4103 .classifying]).withClassifier (.reading ⟨4103, 1, 2, 1007, true⟩)) .classifier (.read 131296 8))
      (fun t => (t.pwq.entries, t.writer.nextSeq, t.counter .writesElided)) = some ([], 0, 1) := by decide +kernel
/-- R79: an expiry with the other bank EMPTY seals. -/
theorem test_coalesceTimerExpiry : after .coalesceTimerExpiry (up.withWriter { up.writer with
    bank1 := bankOf .filling 4 2, coalesceTimer := some 20 }) (fun t => (t.writer.bank1.state, t.counter .flushes)) =
      some (.flushing, 1) := by decide +kernel
/-- R82, R83: the last record of a bank is durable, and the head that waited on it is READY (R53). -/
theorem test_recordWriteDone : after (.recordWriteDone .okay) (flying ((queued [waits 4]).withWriter { up.writer with
    bank0 := bankOf .flushing 4 1, nextSeq := 5, durable := 4 }) .journalWriter (.write 4194496 []))
      (fun t => (t.writer.bank0.state, t.writer.durable, t.pwq.entries.map Entry.stage)) =
        some (.empty, 5, [.ready]) := by decide +kernel
/-- R84, R171: a failed record write halts. -/
theorem test_recordWriteDone_error : after (.recordWriteDone (.error [])) (flying ((queued [waits 4]).withWriter
    { up.writer with bank0 := bankOf .flushing 4 1, nextSeq := 5, durable := 4 }) .journalWriter (.write 4194496 []))
      (fun t => (t.writer.bank0.state, t.ctl.journal, t.faults.haltedCause)) =
        some (.flushFailed, .halted, some .flush) := by decide +kernel
/-- R54: lanes 0 and 1 of a word are written, least significant byte first, and the entry leaves. -/
theorem test_commitWriteDone : after (.commitWriteDone .okay) (flying (queued [{ ent 5000 .committing with
    data := [(0xAABBCCDD, 0x3)] }]) .commitStage (.write 160000 [(0xAABBCCDD, 0x3)])) (fun t => (t.mem, t.pwq.entries)) =
      some ([(160000, 0xDD), (160001, 0xCC)], []) := by decide +kernel
/-- R55: a failed commit drops the write. -/
theorem test_commitWriteDone_error : after (.commitWriteDone (.error [7])) (flying (queued [ent 5000 .committing])
    .commitStage (.write 160000 [(0xAABBCCDD, 0xF)])) (fun t => (t.mem, t.pwq.entries, t.faults.record)) =
      some ([(160000, 7)], [], some ⟨.dataWrite, .commitStage, some 5000, some 1, none, none⟩) := by decide +kernel
/-- R152: a fetch that is not stale makes its slot READY with the discard time. -/
theorem test_fetchDone : after (.fetchDone (.okay [5])) (flying (slot0 (.fetching ⟨1, 4096, 1⟩ false)) (.readSlot 0)
    (.read 4096 1)) (fun t => t.reads.slots[0]) = some (.ready ⟨1, 4096, 1⟩ [5] 2000) := by decide +kernel
/-- R152: a stale one is fetched again. -/
theorem test_fetchDone_stale : after (.fetchDone (.okay [5])) (flying (slot0 (.fetching ⟨1, 4096, 1⟩ true)) (.readSlot 0)
    (.read 4096 1)) (fun t => t.reads.slots[0]) = some (.fetchPending ⟨1, 4096, 1⟩) := by decide +kernel
theorem test_slotDiscardTimerExpiry : after (.slotDiscardTimerExpiry 0) (slot0 (.ready ⟨1, 4096, 1⟩ [5] 2000)) (fun t =>
    (t.reads.slots[0], t.counter .slotsDiscarded)) = some (.free, 1) := by decide +kernel
/-- R98, R188: a slot of zeros whose check code is not good. -/
theorem test_peekReadDone : after (.peekReadDone (.okay [])) (flying { up with service := { up.service with
    response := ⟨0x20, .pending, []⟩, peekRead := some ⟨6, 4194592⟩ } } .servicePort (.read 4194592 12)) (fun t =>
      (t.service.response.tag, t.service.response.payload.length, t.service.response.payload[48]?)) =
        some (0x20, 49, some 1) := by decide +kernel
/-- R187, R188: a read outlives its response, a second geometry change meets the peek that waits behind it, and a third
peek is accepted. The answer is dropped, and the second peek's own read is requested. -/
theorem test_peekReadDone_waiting :
    let pend (tag : Byte) (s : State) : State := { s with service := { s.service with response := ⟨tag, .pending, []⟩ } }
    let asks (k : Peek) (s : State) : State := { s with service := s.service.withPeek k }
    let s := pend 3 (asks ⟨3, 144⟩ ((pend 2 (asks ⟨2, 96⟩ ((pend 1 (asks ⟨1, 48⟩ up)).withGeometry ⟨0, 128⟩))).withGeometry
      ⟨64, 128⟩))
    after (.peekReadDone .error) (flying s .servicePort (.read 48 12)) (fun t =>
      (t.service.response, t.requestOf .servicePort, t.service.peekWaiting)) =
        some (⟨3, .pending, []⟩, some (.read 96 12), [⟨3, 144⟩]) := by decide +kernel
/-- R61, R65: the end of a sweep makes the inactive map CLEAN and ends SWEEP_WAIT. -/
theorem test_sweepEnd : after .sweepEnd ((during .checkpoint .sweepWait .rest).withMaps
    ⟨false, ⟨[3], .live⟩, ⟨[], .sweeping⟩⟩) (fun t => (t.maps.map1, t.maps.map0.setBits, t.ctl.phase)) =
      some (⟨[], .clean⟩, [3], .anchor) := by decide +kernel
/-- R126: no copy is valid. -/
theorem test_anchorReadDone : after (.anchorReadDone .error) (flying (starting .anchorRead (.anchorRead .b none none))
    .epochController (.read 128 16)) (fun t => (t.ctl.journal, t.service.causes)) =
      some (.unformatted, 0xA0) := by decide +kernel
/-- R111: the switch point opens epoch 8 and ends the operation. -/
theorem test_anchorWriteDone : after (.anchorWriteDone .okay) (flying (during .checkpoint .anchor
    (.anchorWrite true ⟨13, 8, .committed, area, table⟩)) .epochController (.write 192 [])) (fun t =>
      (t.ctl.epoch, t.ctl.newest, t.ctl.lastOp, t.maps.activeIndex)) =
        some (8, some .b, some ⟨.checkpoint, .success, 8⟩, true) := by decide +kernel
/-- R107: the first half's ERROR fails the write. -/
theorem test_anchorWriteDone_error : after (.anchorWriteDone (.error [])) (flying (during .checkpoint .anchor
    (.anchorWrite false ⟨13, 8, .committed, area, table⟩)) .epochController (.write 128 [])) (fun t =>
      (t.ctl.epoch, t.ctl.lastOp, t.ctl.journal)) = some (7, some ⟨.checkpoint, .failed, 7⟩, .ready) := by decide +kernel
/-- R107: a copy that reads back as zeros fails the write. -/
theorem test_anchorReadBackDone : after (.anchorReadBackDone (.okay [])) (flying (during .checkpoint .anchor
    (.readBack (some []) ⟨13, 8, .committed, area, table⟩)) .epochController (.read 192 16)) (fun t =>
      (t.ctl.epoch, t.faults.record.map FaultReport.kind)) = some (7, some .anchorWrite) := by decide +kernel
/-- R114: 64 KiB are cleared in 1,024 accesses, the last numbered 1,023. -/
theorem test_clearWriteDone : (after (.clearWriteDone .okay) (flying (during .format .clear (.clearing 1022))
    .epochController (.write 4259712 [])) fun t => t.ctl.work) = some (.clearing 1023) ∧
    (after (.clearWriteDone .okay) (flying (during .format .clear (.clearing 1023)) .epochController (.write 4259776 []))
      fun t => t.ctl.phase) = some .anchor1 := by decide +kernel
/-- R128, R130: a scan that ends at slot 0 restarts. -/
theorem test_scanReadDone : after (.scanReadDone (.okay [])) (flying (starting .scan (.scanning 0)) .epochController
    (.read 4194304 12)) (fun t => (t.ctl.phase, t.writer.durable)) = some (.restart, 0) := by decide +kernel
/-- R129: a valid record is followed by the end of the scan: RECOVERY_PENDING with D = 1. -/
theorem test_scanReadDone_one : after (.scanReadDone (.okay [])) (flying (starting .scan (.scanning 1)) .epochController
    (.read 4194352 12)) (fun t => (t.ctl.journal, t.writer.durable, t.service.causes)) =
      some (.recoveryPending, 1, 0xA0) := by decide +kernel
/-- R138: a valid record's old words go back to its granule. -/
theorem test_walkReadDone : after (.walkReadDone (.okay (journaled 3).words)) (flying (during .rollback .walk
    (.walkReading 3)) .epochController (.read 4194448 12)) (fun t => t.ctl.work) =
      some (.walkWriting 3 128 1 (List.replicate 8 0)) := by decide +kernel
/-- R139, R142: a record that is not valid fails the ROLLBACK. -/
theorem test_walkReadDone_check : after (.walkReadDone (.okay (journaled 4).words)) (flying (during .rollback .walk
    (.walkReading 3)) .epochController (.read 4194448 12)) (fun t => (t.ctl.journal, t.faults.record, t.ctl.lastOp)) =
      some (.recoveryFault, some ⟨.recordCheck, .epochController, none, none, some 7, some 3⟩,
        some ⟨.rollback, .failed, 7⟩) := by decide +kernel
/-- R138: the next lower slot follows, and SWEEP_WAIT's end, here ANCHOR, the last. -/
theorem test_walkWriteDone : (after (.walkWriteDone .okay) (flying ((during .rollback .walk
    (.walkWriting 1 128 1 (List.replicate 8 0))).withWalkRemaining 2) .epochController (.write 4096 [])) fun t =>
      (t.ctl.work, t.ctl.walkRemaining)) = some (.walkReading 0, 1) ∧
    (after (.walkWriteDone .okay) (flying ((during .rollback .walk
      (.walkWriting 0 128 1 (List.replicate 8 0))).withWalkRemaining 1) .epochController (.write 4096 [])) fun t =>
        (t.ctl.phase, t.ctl.walkRemaining)) = some (.anchor, 0) := by decide +kernel
/-- R181: a request period with CLEAR_ATTENTION's frame; three bytes follow it. -/
theorem test_requestFrame : after (.requestFrame [0x01, 0x21, 0x22, 0x01, 0xA0, 0x31, 1, 2, 3])
    { up with service := { up.service with causes := 0xA1 } } (fun t => (t.service.causes, t.service.response)) =
      some (1, ⟨0x22, .ok, []⟩) := by decide +kernel
/-- R181, check 2: a frame cut short after its tag. -/
theorem test_requestFrame_short : after (.requestFrame [0x01, 0x21, 0x22]) up (fun t => t.service.response) =
    some ⟨0x22, .frameError, []⟩ := by decide +kernel

/-! ### Witnesses: a state and operands that meet the hypotheses of each clause of a statement -/

/-- A state that serves commands. -/
theorem up_serves : up.servesCommands := ⟨by decide, by decide, by decide⟩
/-- A state that opens operations. -/
theorem up_opens : up.opensOperations := ⟨up_serves, by decide, by decide⟩
/-- `up` with another journal state, which serves commands where it is not STARTING. -/
def inJournal (j : JournalState) : State := up.withJournal j
/-- RECOVERY_FAULT with a clear pending. -/
def pendingClear : State := { up with ctl := { up.ctl with journal := .recoveryFault, epoch := 0 } }
/-- `up` with the hold set. -/
def held : State := { up with faults := { up.faults with hold := true } }
/-- `up` with a FILLING bank 0 of `n` records and bank 1 in a state. -/
def filling (n : Nat) (other : BankState) : State := up.withWriter { up.writer with
  bank0 := bankOf .filling 0 n, bank1 := ⟨other, []⟩, nextSeq := n }

theorem witness_StepTakesFront : ({ up with pending := [.sweepEnd] } : State).pending = .sweepEnd :: [] ∧
    up.pending = [] := ⟨rfl, rfl⟩
theorem witness_HeldInReset : State.reset.inReset = true ∧ (∀ left, Instr.sweepEnd ≠ .resetAsserted left) ∧
    Instr.sweepEnd ≠ .resetReleased ∧ Instr.sweepEnd ≠ .pfailAsserted ∧ Instr.sweepEnd ≠ .pfailDeasserted :=
  ⟨rfl, by simp, by simp, by simp, by simp⟩
/-- A commit in flight and a byte past its word. -/
theorem witness_ResetValues : ∀ (f : InFlight) (addr : Nat) (words : List LaneWord),
    (flying up .commitStage (.write 4096 [(5, 0xF)])).port = some f → f.access = .write addr words →
      4100 < addr ∨ addr + 4 * words.length ≤ 4100 := by
  intro f addr words h1 h2
  cases h1; cases h2; exact .inr (by decide)
theorem witness_ResetReleased : State.reset.inReset = true ∧ State.reset.faults.hold = false ∧
    ({ State.reset with faults := { State.reset.faults with hold := true } } : State).faults.hold = true ∧
    State.reset.faults.pfquiet = false ∧ State.reset.pwq.entries = [] ∧ State.reset.writer.bank0.state = .empty ∧
    State.reset.writer.bank1.state = .empty ∧ State.reset.ctl.op = none := by decide +kernel
theorem witness_PfailLines : (filling 3 .empty).faults.hold = false ∧
    (filling 3 .empty).writer.bankIn .filling = some false ∧ ((filling 3 .empty).writer.bank true).state = .empty ∧
    (filling 3 .empty).ctl.resolving = false ∧
    up.faults.hold = false ∧ up.writer.bankIn .filling = none ∧ up.faults.pfquiet = false := by decide +kernel
/-- A legal table and area, with granules at the ends of entries 0 (JOURNALED) and 1 (FROZEN). -/
theorem witness_LookupClasses : area.legal = true ∧ table.legal area = true ∧
    lookup table (some area) 128 = .journaled 0 0 false ∧ lookup table (some area) 1127 = .journaled 0 999 false ∧
    lookup table (some area) 2048 = .frozen 1 ∧ lookup table (some area) 2559 = .frozen 1 ∧
    lookup table (some area) 2560 = .unprotected := by decide +kernel
/-- Malformed by length, by alignment, and the last word of the address space. -/
theorem witness_MalformedRefused : up.inReset = false ∧ malformed 0 3 = true ∧ malformed 4 2 = true ∧
    malformed 268435424 8 = false ∧ malformed 268435452 1 = false := by decide +kernel
theorem witness_HostTurnedAway : up.inReset = false ∧ malformed 4096 1 = false ∧
    (starting .scan .rest).ctl.journal = .starting ∧ up.ctl.journal ≠ .starting ∧
    (up.classOf (granuleOf 252) = .anchor ∧ up.classOf (granuleOf 4194304) = .recordArea ∧
      up.classOf (granuleOf 4259836) = .recordArea) ∧
    (during .rollback .walk .rest).ctl.op = some .rollback ∧
    (during .rollback .walk .rest).classOf (granuleOf 4096) = .journaled 0 0 false := by decide +kernel
/-- An address that the host port takes. -/
theorem up_takes : up.takesRequest 4096 1 := by unfold State.takesRequest; decide +kernel
theorem witness_ReadMatched : (up.ctl.op = some .rollback → (up.classOf (granuleOf 4096)).isJournaled = false) ∧
    (∀ sl : Slot, sl.key? = some ⟨1, 4096, 1⟩ → ((slot0 sl).reads.slots[0]).key? = some ⟨1, 4096, 1⟩) ∧
    (∀ j : Fin 4, j < 0 → ((slot0 .free).reads.slots[j]).key? ≠ some ⟨1, 4096, 1⟩) ∧
    (Slot.ready ⟨1, 4096, 1⟩ [5] 2000).key? = some ⟨1, 4096, 1⟩ ∧
    (Slot.failed ⟨1, 4096, 1⟩ 2000).key? = some ⟨1, 4096, 1⟩ ∧
    (Slot.hazardWait ⟨1, 4096, 1⟩).key? = some ⟨1, 4096, 1⟩ ∧
    (Slot.fetching ⟨1, 4096, 1⟩ true).key? = some ⟨1, 4096, 1⟩ :=
  ⟨by decide +kernel, fun sl h => h, by decide +kernel, rfl, rfl, rfl, rfl⟩
/-- Slot 0 FREE with and without a queued entry, and no slot FREE. -/
theorem witness_ReadAllocated : (∀ j : Fin 4, (up.reads.slots[j]).key? ≠ some ⟨1, 4096, 1⟩) ∧
    up.reads.slots[(0 : Fin 4)] = .free ∧ (∀ j : Fin 4, j < 0 → up.reads.slots[j] ≠ .free) ∧
    (∃ e ∈ (queued [ent 128 .unclassified]).pwq.entries, e.granule = granuleOf 4096) ∧
    (∀ e ∈ up.pwq.entries, e.granule ≠ granuleOf 4096) ∧
    (∀ i : Fin 4, (up.withReads { up.reads with slots := Vector.replicate 4 (.hazardWait ⟨2, 64, 1⟩) }).reads.slots[i] ≠
      .free) := by decide +kernel
/-- FROZEN, the three states in which a JOURNALED granule is refused, and the three in which a write is retried. -/
theorem witness_WriteTurnedAway : up.takesRequest 65536 1 ∧ up.classOf (granuleOf 65536) = .frozen 1 ∧
    (inJournal .recoveryPending).takesRequest 4096 1 ∧ ((inJournal .recoveryPending).classOf 128).isJournaled = true ∧
    (inJournal .recoveryPending).ctl.journal = .recoveryPending ∧
    (inJournal .recoveryFault).takesRequest 4096 1 ∧ (inJournal .recoveryFault).ctl.journal = .recoveryFault ∧
    pendingClear.takesRequest 4096 1 ∧ pendingClear.ctl.clearPending = true ∧
    held.takesRequest 4096 1 ∧ held.faults.hold = true ∧
    (during .rollback .walk .rest).takesRequest 4096 1 ∧ (during .rollback .walk .rest).ctl.op = some .rollback ∧
    (queued (List.replicate 16 (ent 9 .ready))).takesRequest 4096 1 ∧
    16 ≤ (queued (List.replicate 16 (ent 9 .ready))).pwq.entries.length := by
  simp only [State.takesRequest]; decide +kernel
/-- A queue of 15 takes one more. -/
theorem witness_WriteAccepted : (queued (List.replicate 15 (ent 9 .ready))).takesRequest 4096 1 ∧
    (∀ i, (queued (List.replicate 15 (ent 9 .ready))).classOf (granuleOf 4096) ≠ .frozen i) ∧
    up.ctl.journal ≠ .recoveryPending ∧ up.ctl.journal ≠ .recoveryFault ∧ up.ctl.clearPending = false ∧
    up.faults.hold = false ∧ up.ctl.op ≠ some .rollback ∧
    (queued (List.replicate 15 (ent 9 .ready))).pwq.entries.length < 16 := by
  have h : (queued (List.replicate 15 (ent 9 .ready))).classOf (granuleOf 4096) = .journaled 0 0 false := by
    decide +kernel
  refine ⟨by simp only [State.takesRequest]; decide +kernel, ?_, ?_⟩
  · intro i; rw [h]; simp
  · decide +kernel

theorem witness_CommandsTurnedAway : up.inReset = false ∧
    ({ up with service := { up.service with response := ⟨1, .pending, []⟩ } } : State).service.response.result = .pending ∧
    (starting .scan .rest).service.response.result ≠ .pending ∧ (starting .scan .rest).ctl.journal = .starting ∧
    ServiceCommand.checkpoint ≠ .getStatus ∧ ServiceCommand.checkpoint ≠ .getFault ∧
    ServiceCommand.checkpoint ≠ .getCounters := by decide +kernel
/-- With and without a last operation and a geometry. -/
theorem witness_StatusReading : up.inReset = false ∧ up.service.response.result ≠ .pending ∧ up.ctl.lastOp = none ∧
    ({ up with ctl := { up.ctl with lastOp := some ⟨.adopt, .failed, 3⟩ } } : State).ctl.lastOp =
      some ⟨.adopt, .failed, 3⟩ ∧
    up.ctl.geometry = some area ∧ (starting .mapSweep .rest).inReset = false ∧
    ({ up with ctl := EpochController.reset } : State).ctl.geometry = none := by decide +kernel
theorem witness_FaultAndCountersReading : up.inReset = false ∧ up.service.response.result ≠ .pending ∧
    up.faults.record = none ∧
    (up.report ⟨.fetch, .readSlots, some 1, none, none, some 0⟩).faults.record =
      some ⟨.fetch, .readSlots, some 1, none, none, some 0⟩ := by decide +kernel
theorem witness_ClearCommands : up.servesCommands := up_serves
/-- Each value just outside and just inside its range, and a bank that a changed threshold seals. -/
theorem witness_TuningDecided : up.servesCommands ∧ (0 : Byte).toNat < 1 ∧ 16 < (17 : Byte).toNat ∧
    1023 < (1024 : BitVec 16).toNat ∧ (0 : BitVec 16).toNat < 1 ∧
    ((1366 : Word) ≠ 0 ∧ up.capacity < (1366 : Word).toNat) ∧
    (1 ≤ (16 : Byte).toNat ∧ (16 : Byte).toNat ≤ 16 ∧ (1023 : BitVec 16).toNat ≤ 1023 ∧ 1 ≤ (1 : BitVec 16).toNat ∧
      up.ctl.geometry.isSome = true ∧ (1365 : Word).toNat ≤ up.capacity) ∧
    ((filling 3 .empty).servesCommands ∧ (filling 3 .empty).writer.bankIn .filling = some false ∧
      ((filling 3 .empty).writer.bank true).state = .empty ∧ (filling 3 .empty).ctl.resolving = false ∧
      (3 : Byte).toNat ≠ (filling 3 .empty).writer.flushThreshold ∧
      (3 : Byte).toNat ≤ ((filling 3 .empty).writer.bank false).records.length) ∧
    up.writer.bankIn .filling = none := by
  simp only [State.servesCommands]; decide +kernel
/-- A bank that a changed threshold does not qualify, and a lowered level that warns at once and one that does not. -/
theorem witness_TuningDecided_warns : (filling 3 .empty).servesCommands ∧
    (5 : Byte).toNat ≠ (filling 3 .empty).writer.flushThreshold ∧
    ¬((5 : Byte).toNat ≤ ((filling 3 .empty).writer.bank false).records.length ∨
      (filling 3 .empty).writer.coalesceDemand = true ∨ (filling 3 .empty).ctl.drain = true ∨
      (filling 3 .empty).faults.hold = true ∨ ((filling 3 .empty).writer.bank false).records.length = 16) ∧
    up.writer.warnArmed = true ∧ some 2 ≠ up.writer.warnSetting ∧
    (up.withWriter { up.writer with warnSetting := some 2, durable := 2 }).warnLevel = 2 ∧
    (up.withWriter { up.writer with warnSetting := some 2, durable := 2 }).writer.durable = 2 ∧
    ¬(3 ≤ (up.withWriter { up.writer with warnSetting := some 3, durable := 2 }).writer.durable) := by
  simp only [State.servesCommands]; decide +kernel
/-- The longest region that ends at the last granule, with the geometry unknown. -/
theorem witness_RegionStaged : (5 : Byte).toNat < 8 ∧ up.servesCommands ∧ up.ctl.op = none ∧
    1 ≤ (65536 : Word).toNat ∧ (65536 : Word).toNat ≤ 65536 ∧ (8323072 : Word).toNat + (65536 : Word).toNat ≤ 8388608 ∧
    8 ≤ (8323072 : Word).toNat ∧
    (∀ g, up.ctl.geometry = some g → ∀ granule, (8323072 : Word).toNat ≤ granule →
      granule < (8323072 : Word).toNat + (65536 : Word).toNat → g.covers granule = false) := by
  refine ⟨by decide, up_serves, ?_⟩
  refine ⟨rfl, Nat.le_of_ble_eq_true rfl, Nat.le_refl 65536, Nat.le_refl 8388608, Nat.le_of_ble_eq_true rfl, ?_⟩
  intro g hg n h1 h2
  have he : g = area := by have : up.ctl.geometry = some area := rfl
                           rw [this] at hg; exact (Option.some.inj hg).symm
  subst he
  have h3 : (8323072 : Word).toNat = 8323072 := rfl
  have h4 : (65536 : Word).toNat = 65536 := rfl
  by_contra hc
  simp only [Geometry.covers, Bool.not_eq_false, Bool.and_eq_true, decide_eq_true_eq] at hc
  have h5 : area.base = 4194304 := rfl
  have h6 : area.size = 65536 := rfl
  omega
theorem witness_RegionNotStaged : (∃ g granule, up.ctl.geometry = some g ∧ (131000 : Word).toNat ≤ granule ∧
      granule < (131000 : Word).toNat + (100 : Word).toNat ∧ g.covers granule = true) ∧
    up.servesCommands ∧ (during .adopt .sweepWait .rest).servesCommands ∧
    (during .adopt .sweepWait .rest).ctl.op ≠ none ∧ up.ctl.op = none ∧ 8 ≤ (8 : Byte).toNat ∧ 2 < (3 : Byte).toNat ∧
    (0 : Word).toNat < 1 ∧ 65536 < (65537 : Word).toNat ∧ 8388608 < (8388608 : Word).toNat + (1 : Word).toNat ∧
    (7 : Word).toNat < 8 := by
  refine ⟨⟨area, 131072, rfl, by decide +kernel⟩, ?_⟩
  simp only [State.servesCommands]
  decide +kernel
theorem witness_RegionRead : up.servesCommands ∧ (7 : Byte).toNat < 8 ∧ 8 ≤ (8 : Byte).toNat ∧ 2 ≤ (2 : Byte).toNat :=
  ⟨up_serves, by decide, by decide, by decide⟩
/-- One state for each refusal of a long operation. -/
theorem witness_LongOpsRefused : 
    (∀ g, ({ up with regions := ⟨table, table.set 4 ⟨.journaled, 5000, 65000, false⟩⟩ } : State).ctl.geometry = some g →
      Table.legal (table.set 4 ⟨.journaled, 5000, 65000, false⟩) g = false) ∧
    (during .adopt .sweepWait .rest).servesCommands ∧
    (during .adopt .sweepWait .rest).ctl.op ≠ none ∧ held.servesCommands ∧ held.ctl.op = none ∧ held.faults.hold = true ∧
    (inJournal .halted).servesCommands ∧ (inJournal .halted).ctl.journal ≠ .ready ∧
    up.ctl.journal ≠ .recoveryPending ∧ (up.ctl.journal = .recoveryFault → up.ctl.clearPending = true) ∧
    (inJournal .unformatted).servesCommands ∧ pendingClear.servesCommands ∧ pendingClear.ctl.clearPending = true ∧
    (inJournal .recoveryFault).servesCommands ∧ (inJournal .recoveryFault).ctl.clearPending = false ∧
    Geometry.legal ⟨(4194304 : Word).toNat, (12288 : Word).toNat⟩ = false ∧
    Geometry.legal ⟨(4096 : Word).toNat, (16384 : Word).toNat⟩ = true ∧
    Table.legal up.regions.staged ⟨(4096 : Word).toNat, (16384 : Word).toNat⟩ = false := by
  simp only [State.servesCommands]
  refine ⟨fun g hg => ?_, by decide +kernel⟩
  obtain rfl : g = area := (Option.some.inj hg).symm
  decide +kernel
/-- CHECKPOINT and FORMAT, with the classifier busy, a classified entry, a map being swept, an epoch that wraps, and a
FILLING bank beside an EMPTY and a FLUSHING one. -/
theorem witness_CheckpointBegins : up.opensOperations ∧ up.regions.staged.legal area = true ∧
    up.ctl.geometry = some area ∧ up.ctl.journal = .ready ∧
    ((⟨(8388608 : Word).toNat, (65536 : Word).toNat⟩ : Geometry).legal = true ∧
      up.regions.staged.legal ⟨(8388608 : Word).toNat, (65536 : Word).toNat⟩ = true) ∧
    (up.withClassifier (.held ⟨128, 1, 0, 0, false⟩)).pwq.classifier ≠ .idle ∧ up.pwq.classifier = .idle ∧
    (∃ e ∈ (queued [ent 9 .ready]).pwq.entries, e.stage ≠ .unclassified) ∧
    (∀ e ∈ up.pwq.entries, e.stage = .unclassified) ∧
    (up.withMaps ⟨false, ⟨[], .live⟩, ⟨[], .dirty⟩⟩).maps.inactive.condition ≠ .clean ∧
    up.maps.inactive.condition = .clean ∧ up.ctl.epochInEffect ≠ 0xFFFFFFFF ∧
    ({ up with ctl := { up.ctl with epoch := 0xFFFFFFFF } } : State).ctl.epochInEffect = 0xFFFFFFFF ∧
    (filling 3 .empty).writer.bankIn .filling = some false ∧ ((filling 3 .empty).writer.bank true).state = .empty ∧
    ((filling 3 .flushing).writer.bank true).state ≠ .empty := by
  simp only [State.opensOperations, State.servesCommands]; decide +kernel
theorem witness_AdoptBegins : (inJournal .recoveryPending).opensOperations ∧
    (inJournal .recoveryPending).ctl.geometry = some area ∧ (inJournal .recoveryPending).regions.staged.legal area = true ∧
    (inJournal .recoveryPending).ctl.journal = .recoveryPending ∧
    (inJournal .recoveryFault).ctl.journal = .recoveryFault ∧ (inJournal .recoveryFault).ctl.clearPending = false ∧
    (inJournal .recoveryPending).maps.inactive.condition = .clean ∧
    (up.withMaps ⟨false, ⟨[], .live⟩, ⟨[], .sweeping⟩⟩).maps.inactive.condition ≠ .clean ∧
    (inJournal .recoveryPending).ctl.epochInEffect ≠ 0xFFFFFFFF ∧
    ({ up with ctl := { up.ctl with epoch := 0xFFFFFFFF } } : State).ctl.epochInEffect = 0xFFFFFFFF := by
  simp only [State.opensOperations, State.servesCommands]; decide +kernel
/-- With a commit, with a record write, and with nothing in flight. -/
theorem witness_RollbackBegins : up.opensOperations ∧ up.ctl.journal = .ready ∧
    (inJournal .halted).opensOperations ∧ (inJournal .recoveryPending).opensOperations ∧
    (inJournal .recoveryFault).opensOperations ∧ (inJournal .recoveryFault).ctl.clearPending = false ∧
    (∃ a, (flying up .commitStage (.write 4096 [])).port = some ⟨.commitStage, a⟩) ∧
    (∀ a, up.port ≠ some ⟨.commitStage, a⟩) ∧ (∀ a, up.port ≠ some ⟨.journalWriter, a⟩) := by
  refine ⟨up_opens, by decide +kernel, ?_, ?_, ?_, by decide +kernel, ⟨_, rfl⟩, ?_, ?_⟩
  · simp only [State.opensOperations, State.servesCommands]; decide +kernel
  · simp only [State.opensOperations, State.servesCommands]; decide +kernel
  · simp only [State.opensOperations, State.servesCommands]; decide +kernel
  · intro a; simp [up, State.reset]
  · intro a; simp [up, State.reset]
/-- Entries of the fates at RESOLVE: JOURNALED, closed, UNPROTECTED (a null write is in `witness_TakeDisposed_null`) and
already READY, with the fault record empty and full. -/
theorem witness_QueueResolvesTo : (up.classOf 128).isJournaled = true ∧
    (up.classOf 2048 = .frozen 1 ∧ (ent 2048 .unclassified).stage = .unclassified ∧ up.classOf 2048 ≠ .unprotected) ∧
    up.classOf 5000 = .unprotected ∧
    (ent 5000 .ready).stage ≠ .unclassified ∧ up.faults.record = none ∧
    (up.report ⟨.fetch, .readSlots, none, none, none, none⟩).faults.record ≠ none := by decide +kernel
/-- R149: a slot that waits for one entry that goes, and for one of two. -/
theorem test_afterLeaving :
    (Slot.hazardWait ⟨1, 4096, 1⟩).afterLeaving [ent 128 .waiting] [ent 5000 .ready] = .fetchPending ⟨1, 4096, 1⟩ ∧
    (Slot.hazardWait ⟨1, 4096, 1⟩).afterLeaving [ent 128 .waiting] [ent 128 .ready] = .hazardWait ⟨1, 4096, 1⟩ := by
  simp [Slot.afterLeaving, ent]
/-- RESOLVE with a record write and with a read in flight, and its ends: with entries left, with the count unknown, with
records to walk, and with none, over a CLEAN and a SWEEPING map. -/
theorem witness_ResolveEndsTo :
    (∃ a, (flying up .journalWriter (.write 4194304 [])).port = some ⟨.journalWriter, a⟩) ∧
    (∃ a, (flying up .classifier (.read 4096 8)).port = some ⟨.classifier, a⟩) ∧
    (∀ a, up.port ≠ some ⟨.classifier, a⟩) ∧ (queued [ent 5000 .ready]).pwq.entries ≠ [] ∧
    (up.pwq.entries = [] ∧ up.pwq.classifier = .idle) ∧ (up.withCountUnknown true).ctl.countUnknown = true ∧
    up.ctl.countUnknown = false ∧ (up.withWriter { up.writer with durable := 3 }).writer.durable = 2 + 1 ∧
    up.writer.durable = 0 ∧ up.maps.inactive.condition = .clean ∧
    (up.withMaps ⟨false, ⟨[], .live⟩, ⟨[], .sweeping⟩⟩).maps.inactive.condition ≠ .clean ∧
    (during .rollback .resolve .rest).ctl.op = some .rollback ∧
    (during .rollback .resolve .rest).operationGeometry .rollback = some area := by
  refine ⟨⟨_, rfl⟩, ⟨_, rfl⟩, fun a => by simp [up, State.reset], ?_⟩
  decide +kernel
theorem witness_ResumeBegins : (inJournal .halted).opensOperations ∧ (inJournal .halted).ctl.journal = .halted ∧
    ((inJournal .halted).withWriter { up.writer with bank0 := bankOf .flushFailed 4 2 }).writer.bankIn .flushFailed =
      some false ∧
    (inJournal .halted).writer.bankIn .flushFailed = none ∧
    ((inJournal .halted).withClassifier (.held ⟨128, 1, 0, 0, false⟩)).pwq.classifier = .held ⟨128, 1, 0, 0, false⟩ ∧
    ((inJournal .halted).withClassifier (.reading ⟨128, 1, 0, 0, false⟩)).pwq.classifier ≠ .idle := by
  simp only [State.opensOperations, State.servesCommands]; decide +kernel
/-- The last slot and the first past the capacity. -/
theorem witness_PeekDecided : up.servesCommands ∧ (inJournal .unformatted).servesCommands ∧
    (inJournal .unformatted).ctl.journal = .unformatted ∧ up.ctl.journal ≠ .unformatted ∧
    up.capacity ≤ (1365 : Word).toNat ∧ up.ctl.geometry = some area ∧ (1364 : Word).toNat < area.size / 48 ∧
    up.service.peekRead = none ∧
    ({ up with service := { up.service with peekRead := some ⟨1, 48⟩ } } : State).service.peekRead ≠ none := by
  simp only [State.servesCommands]; decide +kernel
theorem witness_ResponseFetched : up.inReset = false := rfl
theorem witness_RequestFrameIsCommand : up.inReset = false ∧ State.reset.inReset = true ∧
    up.service.response.result ≠ .pending ∧
    ({ up with service := { up.service with response := ⟨1, .pending, []⟩ } } : State).service.response.result =
      .pending := by decide +kernel
/-- R99: a frame that is well formed. -/
def frameFormed (rx : List Byte) : Bool :=
  3 ≤ rx.length && (rx.getD 2 0).toNat ≤ 24 && 4 + (rx.getD 2 0).toNat ≤ rx.length &&
    rx[3 + (rx.getD 2 0).toNat]? == some (crc8 (rx.take (3 + (rx.getD 2 0).toNat)))
/-- Frames that are well formed and refused, one of them a PEEK_RECORD with two bytes, and frames that are not. -/
theorem witness_FramesRefused : up.inReset = false ∧ up.service.response.result ≠ .pending ∧
    frameFormed [0x30, 0x22, 0x00, 0x65] = true ∧ frameFormed (withFrameCheck [0x20, 0x16, 0x02, 0x00, 0x00]) = true ∧
    frameFormed [0x11, 0x16, 0x00, 0xE1] = false ∧ frameFormed [0x11, 0x16, 0x00] = false ∧
    frameFormed (withFrameCheck ([0x11, 0x16, 0x19] ++ List.replicate 25 0)) = false ∧
    (0x03 : Byte) ≠ 0x01 ∧ (0x03 : Byte) ≠ 0x02 := by decide +kernel
theorem witness_PeekAnswered :
    let s : State := flying { up with service := { up.service with
      response := ⟨0x20, .pending, []⟩, peekRead := some ⟨6, 4194592⟩ } } .servicePort (.read 4194592 12)
    s.inReset = false ∧ s.port = some ⟨.servicePort, .read 4194592 12⟩ ∧ s.service.peekRead = some ⟨6, 4194592⟩ ∧
      s.service.response.result = .pending ∧ s.service.peekWaiting = [] ∧ up.service.response.result ≠ .pending ∧
      ({ up.service with peekWaiting := [⟨7, 4194640⟩] } : ServicePort).peekWaiting ≠ [] := by
  decide +kernel

/-- A FLUSHING bank, a READING classifier, a READY head, a FETCH_PENDING slot, a scan and a walk. -/
theorem witness_RequestsStanding : up.ctl.resolving = false ∧
    (up.withWriter { up.writer with bank0 := bankOf .flushing 4 1 }).writer.bankIn .flushing = some false ∧
    ((up.withWriter { up.writer with bank0 := bankOf .flushing 4 1 }).writer.bank false).records = [journaled 4] ∧
    ((during .rollback .resolve .rest).ctl.op = some .rollback ∧ (during .rollback .resolve .rest).ctl.phase = .resolve) ∧
    (up.withClassifier (.reading ⟨128, 1, 0, 0, false⟩)).pwq.classifier = .reading ⟨128, 1, 0, 0, false⟩ ∧
    (queued [ent 9 .ready]).pwq.entries = ent 9 .ready :: [] ∧ (ent 9 .ready).stage = .ready ∧
    ¬(up.ctl.op = some .rollback ∧ up.ctl.phase = .quiesce) ∧ (ent 9 .waiting).stage ≠ .ready ∧
    (slot0 (.fetchPending ⟨1, 4096, 1⟩)).reads.slots[(0 : Fin 4)] = .fetchPending ⟨1, 4096, 1⟩ ∧
    (starting .scan (.scanning 3)).ctl.work = .scanning 3 ∧
    (during .rollback .walk (.walkWriting 1 128 1 [])).ctl.work = .walkWriting 1 128 1 [] := by decide +kernel
/-- Both halves of each access to an anchor copy, with the newest anchor in copy A and with none, a clear, a peek, and an
owner of each kind with nothing requested. -/
theorem witness_RequestsStanding_controller :
    (starting .anchorRead (.anchorRead .b (some [0]) none)).ctl.work = .anchorRead .b (some [0]) none ∧
    (during .checkpoint .anchor (.anchorWrite true ⟨13, 8, .committed, area, table⟩)).ctl.work =
      .anchorWrite true ⟨13, 8, .committed, area, table⟩ ∧
    (during .checkpoint .anchor (.readBack none ⟨13, 8, .committed, area, table⟩)).ctl.work =
      .readBack none ⟨13, 8, .committed, area, table⟩ ∧
    up.ctl.newest = some .a ∧ EpochController.reset.newest = none ∧
    (during .format .clear (.clearing 1023)).ctl.work = .clearing 1023 ∧ up.ctl.geometry = some area ∧
    ({ up with service := { up.service with peekRead := some ⟨6, 4194592⟩ } } : State).service.peekRead =
      some ⟨6, 4194592⟩ ∧
    up.ctl.work = .rest ∧ up.writer.bankIn .flushing = none ∧ up.pwq.classifier = .idle ∧ up.pwq.entries = [] ∧
    up.reads.slots[(0 : Fin 4)] = .free ∧ up.service.peekRead = none := by decide +kernel
/-- R163's order. -/
def grantOrder : List Requester :=
  [.epochController, .journalWriter, .classifier, .commitStage, .readSlot 0, .readSlot 1, .readSlot 2, .readSlot 3,
    .servicePort]
/-- The commit stage and slot 0 first in the order, the last access of the address space and one past it. -/
theorem witness_GrantTaken : up.inReset = false ∧ up.port = none ∧
    (flying up .servicePort (.read 0 1)).port ≠ none ∧ (∀ r ∈ grantOrder, up.requestOf r = none) ∧
    (queued [ent 9 .ready]).requestOf .commitStage = some (.write 288 [(0xAABBCCDD, 0xF)]) ∧
    (∀ q ∈ grantOrder, grantOrder.idxOf q < grantOrder.idxOf Requester.commitStage →
      (queued [ent 9 .ready]).requestOf q = none) ∧
    (slot0 (.fetchPending ⟨1, 268435452, 1⟩)).requestOf (.readSlot 0) = some (.read 268435452 1) ∧
    (∀ q ∈ grantOrder, grantOrder.idxOf q < grantOrder.idxOf (Requester.readSlot 0) →
      (slot0 (.fetchPending ⟨1, 268435452, 1⟩)).requestOf q = none) ∧
    268435452 + 4 * 1 ≤ 268435456 ∧ 268435456 < 268435452 + 4 * 2 := by decide +kernel
/-- A null write, and a write that is none. -/
theorem witness_TakeDisposed_null : (∀ w ∈ ([(5, 0)] : List LaneWord), w.2 = 0) ∧
    ¬(∀ w ∈ (ent 9 .ready).data, w.2 = 0) := by simp [ent]
/-- A taken entry behind one that is not UNCLASSIFIED, in each class. -/
theorem witness_TakeDisposed : (∀ g ∈ [2048, 7, 131072, 5000, 4103],
      (queued ([ent 9 .ready] ++ ent g .unclassified :: [])).wouldTake [ent 9 .ready] (ent g .unclassified) []) ∧
    up.classOf 2048 = .frozen 1 ∧ up.classOf 7 = .anchor ∧ up.classOf 131072 = .recordArea ∧
    up.classOf 5000 = .unprotected ∧ up.classOf 4103 = .journaled 2 1007 true ∧
    (up.withMaps ⟨false, ⟨[1007], .live⟩, ⟨[], .clean⟩⟩).maps.active.condition = .live ∧
    1007 ∈ (up.withMaps ⟨false, ⟨[1007], .live⟩, ⟨[], .clean⟩⟩).maps.active.setBits := by
  simp only [State.wouldTake]; decide +kernel
/-- With room, with a full bank, with no EMPTY bank, and with a full journal at its boundary. -/
theorem witness_TakeRecordPath : (queued [ent 128 .unclassified]).wouldTake [] (ent 128 .unclassified) [] ∧
    (queued [ent 128 .unclassified]).classOf 128 = .journaled 0 0 false ∧ (∃ w ∈ (ent 128 .unclassified).data, w.2 ≠ 0) ∧
    0 ∉ up.maps.active.setBits ∧ up.writer.nextSeq < up.capacity ∧
    ((filling 15 .empty).writer.bankIn .filling = some false ∧
      ((filling 15 .empty).writer.bank false).records.length < 16) ∧
    (up.writer.bankIn .filling = none ∧ up.writer.bankIn .empty ≠ none) ∧
    16 ≤ ((filling 16 .flushing).writer.bank false).records.length ∧
    (up.withWriter { up.writer with bank0 := ⟨.flushing, []⟩, bank1 := ⟨.flushFailed, []⟩ }).writer.bankIn .empty = none ∧
    up.capacity ≤ (up.withWriter { up.writer with nextSeq := 1365 }).writer.nextSeq ∧ up.writer.fullArmed = true := by
  refine ⟨⟨rfl, rfl, rfl, by decide +kernel, rfl, rfl, by simp⟩, ?_⟩
  decide +kernel
/-- The state of the two old-data tests above, with the entry behind a READY one. -/
theorem witness_OldDataOkay :
    let s : State := flying ((queued ([ent 9 .ready] ++ ent 128 .classifying :: [])).withClassifier
      (.reading ⟨128, 1, 0, 0, true⟩)) .classifier (.read (32 * 128) 8)
    s.inReset = false ∧ s.port = some ⟨.classifier, .read (32 * 128) 8⟩ ∧
      s.pwq.classifier = .reading ⟨128, 1, 0, 0, true⟩ ∧ (ent 128 .classifying).stage = .classifying ∧
      (∀ x ∈ [ent 9 .ready], x.stage ≠ .classifying) ∧
      (ent 128 .classifying).unchangedBy (answeredWords s.mem (32 * 128) 8 [0xAABBCCDD]) = true ∧
      (ent 128 .classifying).unchangedBy (answeredWords s.mem (32 * 128) 8 [0xAABBCCDE]) = false := by decide +kernel
/-- R74: a FILLING bank, and none of them with each last-sealed indicator; a LIVE and a SWEEPING map. -/
theorem witness_OldDataOkay_placed : (filling 3 .empty).writer.bankIn .filling = some false ∧
    (up.writer.bankIn .filling = none ∧ up.writer.lastSealed = none) ∧
    ({ up.writer with lastSealed := some false } : JournalWriter).lastSealed = some (!true) ∧
    ({ up.writer with lastSealed := some true } : JournalWriter).lastSealed = some (!false) ∧
    up.maps.active.condition = .live ∧ State.reset.maps.active.condition ≠ .live := by decide +kernel
theorem witness_OldDataDropped :
    let s : State := flying ((queued [ent 128 .classifying]).withClassifier (.reading ⟨128, 1, 0, 0, true⟩)) .classifier
      (.read (32 * 128) 8)
    s.inReset = false ∧ s.port = some ⟨.classifier, .read (32 * 128) 8⟩ ∧
      s.pwq.classifier = .reading ⟨128, 1, 0, 0, true⟩ ∧ (∃ e ∈ s.pwq.entries, e.stage = .classifying) ∧
      (∀ e ∈ (queued [ent 9 .ready]).pwq.entries, e.stage ≠ .classifying) := by decide +kernel
/-- A head that waits on record 4, against durable counts 4 and 5; banks at and below the threshold; the timer's start. -/
theorem witness_WritePathTests : (queued [waits 4]).pwq.entries = waits 4 :: [] ∧ (waits 4).stage = .waiting ∧
    (waits 4).recordSeq = some 4 ∧ 4 < 5 ∧ 4 ≤ 4 ∧ (ent 9 .ready).stage ≠ .waiting ∧
    (filling 8 .empty).writer.bankIn .filling = some false ∧ ((filling 8 .empty).writer.bank true).state = .empty ∧
    (filling 8 .empty).ctl.resolving = false ∧
    (filling 8 .empty).writer.flushThreshold ≤ ((filling 8 .empty).writer.bank false).records.length ∧
    ((filling 7 .empty).writer.bank false).records.length < (filling 7 .empty).writer.flushThreshold ∧
    ((filling 8 .flushing).writer.bank true).state ≠ .empty ∧ up.writer.bankIn .filling = none ∧
    journaled 0 ∈ ((filling 3 .empty).writer.bank false).records ∧ (journaled 0).seq = 0 ∧
    (filling 3 .empty).writer.coalesceTimer = none ∧ (filling 3 .empty).writer.coalesceDemand = false ∧
    (filling 3 .empty).writer.coalesceTime ≠ 0 := by decide +kernel
/-- The part about to be quiet, and the phases that `advance` ends or leaves, with what holds each of them. -/
theorem witness_WritePathTests_advance :
    (held.inReset = false ∧ held.faults.hold = true ∧ held.pwq.entries = [] ∧ held.writer.bank0.state = .empty ∧
      held.writer.bank1.state = .empty ∧ held.ctl.op = none ∧ held.faults.pfquiet = false) ∧
    up.faults.hold = false ∧ up.writer.bankIn .filling = none ∧
    (during .checkpoint .freeze .rest).ctl.phase = .freeze ∧
    ((during .checkpoint .freeze .rest).withClassifier (.reading ⟨128, 1, 0, 0, false⟩)).pwq.classifier ≠ .idle ∧
    (during .checkpoint .drain .rest).ctl.phase = .drain ∧ (ent 9 .ready).stage ≠ .unclassified ∧
    (during .rollback .quiesce .rest).ctl.phase = .quiesce ∧
    (flying (during .rollback .quiesce .rest) .commitStage (.write 288 [])).port =
      some ⟨.commitStage, .write 288 []⟩ ∧
    (during .rollback .resolve .rest).ctl.phase = .resolve ∧
    up.ctl.phase ∉ [Phase.freeze, .drain, .quiesce, .resolve, .reissue] := by decide +kernel
/-- REISSUE with an item outstanding, with one failed, with all succeeded, and with a HELD classifier left over. -/
theorem witness_WritePathTests_reissue :
    let s (flush read : ResumeItem) : State := { during .resume .reissue .rest with ctl :=
      { (during .resume .reissue .rest).ctl with journal := .halted, resumeFlush := flush, resumeRead := read } }
    (∀ f r, (s f r).ctl.phase = .reissue ∧ (s f r).ctl.op = some .resume ∧ (s f r).ctl.resumeFlush = f ∧
      (s f r).ctl.resumeRead = r) ∧
    (up.withClassifier (.held ⟨128, 1, 0, 0, false⟩)).pwq.classifier = .held ⟨128, 1, 0, 0, false⟩ ∧
    (s .succeeded .notStarted).writer.bankIn .flushFailed = none ∧
    (s .succeeded .notStarted).pwq.classifier = .idle := by
  refine ⟨fun _ _ => ⟨rfl, rfl, rfl, rfl⟩, ?_⟩
  decide +kernel
theorem witness_TimersExpire :
    (up.withWriter { (filling 3 .empty).writer with coalesceTimer := some 20 }).writer.coalesceTimer ≠ none ∧
    (filling 3 .empty).writer.bankIn .filling = some false ∧ ((filling 3 .empty).writer.bank true).state = .empty ∧
    (∀ b, (filling 3 .flushing).writer.bankIn .filling = some b →
      ((filling 3 .flushing).writer.bank (!b)).state ≠ .empty) ∧
    up.writer.coalesceTimer = none ∧ up.inReset = false ∧
    (slot0 (.ready ⟨1, 4096, 1⟩ [5] 2000)).reads.slots[(0 : Fin 4)] = .ready ⟨1, 4096, 1⟩ [5] 2000 ∧
    (slot0 (.failed ⟨1, 4096, 1⟩ 2000)).reads.slots[(0 : Fin 4)] = .failed ⟨1, 4096, 1⟩ 2000 ∧
    up.reads.slots[(0 : Fin 4)] = .free := by decide +kernel
/-- A bank's last record, and one with another behind it. -/
theorem witness_RecordWritten :
    let s : State := flying (up.withWriter { up.writer with bank0 := bankOf .flushing 4 1, nextSeq := 5, durable := 4 })
      .journalWriter (.write 4194496 [])
    s.inReset = false ∧ s.port = some ⟨.journalWriter, .write 4194496 []⟩ ∧ s.writer.bankIn .flushing = some false ∧
      (s.writer.bank false).records = journaled 4 :: [] ∧ (bankOf .flushing 4 2).records = journaled 4 :: [journaled 5] := by
  decide +kernel
/-- The default level of 1,023, an explicit one, and the level of an unknown geometry. -/
theorem witness_RecordWritten_warns : area.size / 48 * 3 / 4 = 1023 ∧ up.writer.warnSetting = none ∧
    up.writer.warnArmed = true ∧ EpochController.reset.geometry = none ∧
    1023 ≤ (up.withWriter { up.writer with durable := 1023 }).writer.durable ∧
    (up.withWriter { up.writer with durable := 1022 }).writer.durable < 1023 := by decide +kernel
theorem witness_CommitAnswered :
    let e : Entry := ent 5000 .committing
    let s : State := flying (queued [e]) .commitStage (.write (32 * e.granule + 4 * e.first) e.data)
    s.inReset = false ∧ s.pwq.entries = e :: [] ∧ e.stage = .committing ∧
      s.port = some ⟨.commitStage, .write (32 * e.granule + 4 * e.first) e.data⟩ ∧
      160003 < 32 * e.granule + 4 * e.first + 4 * e.data.length ∧
      32 * e.granule + 4 * e.first + 4 * e.data.length ≤ 160004 := by decide +kernel
/-- A slot that fetches, stale or not, with and without a queued entry, and one that has been freed. -/
theorem witness_FetchAnswered : (flying up (.readSlot 0) (.read 4096 1)).inReset = false ∧
    (flying up (.readSlot 0) (.read 4096 1)).port = some ⟨.readSlot 0, .read 4096 1⟩ ∧
    (slot0 (.fetching ⟨1, 4096, 1⟩ false)).reads.slots[(0 : Fin 4)] = .fetching ⟨1, 4096, 1⟩ false ∧
    (slot0 (.fetching ⟨1, 4096, 1⟩ true)).reads.slots[(0 : Fin 4)] = .fetching ⟨1, 4096, 1⟩ true ∧
    (∃ e ∈ (queued [ent 128 .ready]).pwq.entries, e.granule = (⟨1, 4096, 1⟩ : SlotKey).granule) ∧
    (∀ e ∈ up.pwq.entries, e.granule ≠ (⟨1, 4096, 1⟩ : SlotKey).granule) ∧
    up.reads.slots[(0 : Fin 4)] = .free := by decide +kernel
/-- The end of the active map's sweep and of the inactive map's, with and without a DIRTY map behind it. -/
theorem witness_SweepEnds : (∀ m0 m1 : TouchMap, (up.withMaps ⟨false, m0, m1⟩).inReset = false) ∧
    ((up.withMaps ⟨false, ⟨[], .sweeping⟩, ⟨[], .dirty⟩⟩).maps.map false).condition = .sweeping ∧
    ((up.withMaps ⟨false, ⟨[], .live⟩, ⟨[], .sweeping⟩⟩).maps.map true).condition = .sweeping ∧
    (up.withMaps ⟨false, ⟨[], .live⟩, ⟨[], .sweeping⟩⟩).maps.map0.condition ≠ .sweeping ∧
    up.ctl.phase ≠ .sweepWait ∧ up.ctl.phase ≠ .mapSweep ∧
    (during .checkpoint .sweepWait .rest).ctl.phase = .sweepWait ∧
    (starting .mapSweep .rest).ctl.phase = .mapSweep := by
  refine ⟨fun _ _ => rfl, ?_⟩
  decide +kernel
theorem witness_SweepEnds_anchor : (during .checkpoint .sweepWait .rest).ctl.op = some .checkpoint ∧
    (during .checkpoint .sweepWait .rest).operationGeometry .checkpoint = some area := by decide +kernel
theorem witness_StartUpReads :
    let s : State := flying (starting .anchorRead (.anchorRead .b (some [0]) none)) .epochController (.read 192 16)
    s.inReset = false ∧ s.port = some ⟨.epochController, .read 192 16⟩ ∧ s.ctl.work = .anchorRead .b (some [0]) none ∧
      (0 : Word) = 0 ∧ (7 : Word) ≠ 0 := by decide +kernel
/-- A geometry that is new and one that is not, an explicit level at and above its capacity, slots inside and outside its
area, and a PENDING response. -/
theorem witness_TakesGeometry : EpochController.reset.geometry ≠ some area ∧ up.ctl.geometry = some area ∧
    1365 ≤ area.size / 48 ∧ ¬1366 ≤ area.size / 48 ∧
    (Slot.failed ⟨1, 4194304, 1⟩ 2000).key? = some ⟨1, 4194304, 1⟩ ∧
    area.base / 32 ≤ (4194304 : BitVec 28).toNat / 32 ∧ (4194304 : BitVec 28).toNat / 32 < (area.base + area.size) / 32 ∧
    (area.base + area.size) / 32 ≤ (4259840 : BitVec 28).toNat / 32 ∧ up.service.response.result ≠ .pending ∧
    ({ up with service := { up.service with response := ⟨1, .pending, []⟩ } } : State).service.response.result =
      .pending := by decide +kernel
set_option maxRecDepth 20000 in
/-- Each half of a write, a read-back that finds the copy whole, and one that finds nothing valid. -/
theorem witness_AnchorAnswered :
    let x : Anchor := ⟨13, 8, .committed, area, table⟩
    let s (w : EpochWork) (a : Access) : State := flying (during .checkpoint .anchor w) .epochController a
    (∀ w a, (s w a).inReset = false) ∧ (∀ w a, (s w a).port = some ⟨.epochController, a⟩) ∧
      (∀ w a, (s w a).ctl.work = w) ∧ anchorOfWords [0] = none ∧
      (anchorOfWords (x.half false ++ x.half true)).map Anchor.generation = some x.generation := by
  refine ⟨fun _ _ => rfl, fun _ _ => rfl, fun _ _ => rfl, rfl, ?_⟩
  decide +kernel
/-- A failure in start-up, in ANCHOR1, and of each operation in its ANCHOR phase. -/
theorem witness_AnchorAnswered_fails : (starting .restart .rest).ctl.journal = .starting ∧
    (during .format .anchor1 .rest).ctl.phase = .anchor1 ∧ (during .format .anchor1 .rest).ctl.journal ≠ .starting ∧
    (∀ k, (during k .anchor .rest).ctl.op = some k ∧ (during k .anchor .rest).ctl.phase ≠ .anchor1) := by
  refine ⟨rfl, rfl, by decide +kernel, fun k => ⟨rfl, ?_⟩⟩
  show Phase.anchor ≠ .anchor1
  decide
theorem witness_SwitchPoint :
    let s : State := flying (during .checkpoint .anchor (.anchorWrite true ⟨13, 8, .committed, area, table⟩))
      .epochController (.write 192 [])
    s.inReset = false ∧ s.port = some ⟨.epochController, .write 192 []⟩ ∧
      s.ctl.work = .anchorWrite true ⟨13, 8, .committed, area, table⟩ ∧ s.ctl.phase = .anchor ∧
      s.ctl.op = some .checkpoint ∧ s.maps.inactive.condition = .clean ∧ s.maps.active.condition = .live := by
  decide +kernel
/-- ANCHOR0 of each operation, a FORMAT to another area, ANCHOR1, and the two ends of start-up. -/
theorem witness_SwitchPoint_acknowledged :
    (∀ k, (during k .anchor0 .rest).ctl.phase = .anchor0 ∧ (during k .anchor0 .rest).ctl.op = some k) ∧
    ({ during .format .anchor0 .rest with ctl := { (during .format .anchor0 .rest).ctl with
      formatArgs := some ⟨8388608, 65536⟩ } } : State).ctl.formatArgs = some ⟨8388608, 65536⟩ ∧
    up.ctl.geometry ≠ some ⟨8388608, 65536⟩ ∧
    (during .adopt .anchor1 .rest).ctl.phase = .anchor1 ∧ (during .adopt .anchor1 .rest).ctl.journal ≠ .starting ∧
    (starting .anchor1 .rest).ctl.op = none ∧ (starting .restart .rest).ctl.phase = .restart ∧
    ((starting .anchor1 .rest).withStartCycle ⟨.formatted, false⟩).ctl.startCycle = some ⟨.formatted, false⟩ ∧
    ((starting .anchor1 .rest).withStartCycle ⟨.restarted, true⟩).ctl.startCycle = some ⟨.restarted, true⟩ ∧
    up.maps.inactive.condition = .clean ∧ up.maps.active.condition = .live := by
  refine ⟨fun _ => ⟨rfl, rfl⟩, ?_⟩
  decide +kernel
/-- Clears 1,022 and 1,023 of 1,024, in an operation with an entry to discard. -/
theorem witness_ClearAnswered :
    let s (k : Nat) : State := flying ((during .format .clear (.clearing k)).withEntries [ent 128 .unclassified])
      .epochController (.write (4194304 + 64 * k) [])
    (s 0).inReset = false ∧ (s 0).port = some ⟨.epochController, .write 4194304 []⟩ ∧ (s 0).ctl.work = .clearing 0 ∧
      (s 0).ctl.geometry = some area ∧ 1022 + 1 < area.size / 64 ∧ area.size / 64 ≤ 1023 + 1 ∧
      (s 0).ctl.journal ≠ .starting ∧ (s 0).ctl.op ≠ none ∧ ¬((s 0).classOf 5000).isJournaled := by decide +kernel
/-- A cycle that fails in start-up and in an operation, over a CLEAN and over a SWEEPING inactive map, with an entry that
goes and one that stays. -/
theorem witness_ClearAnswered_fails : (starting .clear (.clearing 0)).ctl.journal = .starting ∧
    (during .format .clear (.clearing 0)).ctl.op = some .format ∧ (during .format .clear (.clearing 0)).ctl.journal = .ready ∧
    up.maps.inactive.condition = .clean ∧ up.maps.active.condition = .live ∧
    (up.withMaps ⟨false, ⟨[3], .live⟩, ⟨[], .sweeping⟩⟩).maps.inactive.condition = .sweeping ∧
    pendingClear.ctl.journal ≠ .ready ∧ pendingClear.ctl.journal ≠ .halted ∧
    ((ent 128 .unclassified).stage = .unclassified ∧ (up.classOf 128).isJournaled = true) ∧
    (up.classOf 5000).isJournaled = false ∧
    (during .adopt .clear (.clearing 0)).operationGeometry .adopt = some area ∧
    ((starting .clear (.clearing 0)).withStartCycle ⟨.formatted, false⟩).ctl.startCycle = some ⟨.formatted, false⟩ := by
  decide +kernel
/-- A valid record, one that is not, and the last slot of the area. -/
theorem witness_ScanAnswered :
    let s : State := flying (starting .scan (.scanning 3)) .epochController (.read 4194448 12)
    s.inReset = false ∧ s.port = some ⟨.epochController, .read 4194448 12⟩ ∧ s.ctl.work = .scanning 3 ∧
      verdictOf (answeredWords s.mem 4194448 12 (journaled 3).words) s.ctl.epochInEffect 3 = .valid ∧
      verdictOf (answeredWords s.mem 4194448 12 []) s.ctl.epochInEffect 3 ≠ .valid ∧ 3 + 1 < s.capacity ∧
      s.capacity ≤ 1364 + 1 ∧ s.ctl.journal = .starting ∧ (during .rollback .scan (.scanning 3)).ctl.journal ≠ .starting ∧
      s.faults.record = none := by decide +kernel
/-- RESTART's anchor and the clear cycle in its place, and a WALK of three records and of none. -/
theorem witness_ScanAnswered_next : (starting .scan .rest).ctl.op = none ∧ (starting .scan .rest).ctl.startCycle = none ∧
    (starting .scan .rest).ctl.geometry = some area ∧ (starting .scan .rest).ctl.epochInEffect ≠ 0xFFFFFFFF ∧
    ({ up with ctl := { up.ctl with epoch := 0xFFFFFFFF } } : State).ctl.epochInEffect = 0xFFFFFFFF ∧
    (up.withWriter { up.writer with durable := 3 }).writer.durable = 2 + 1 ∧ up.writer.durable = 0 := by decide +kernel
theorem witness_WalkAnswered :
    let s (w : EpochWork) (a : Access) : State := flying (during .rollback .walk w) .epochController a
    (∀ w a, (s w a).inReset = false) ∧ (∀ w a, (s w a).port = some ⟨.epochController, a⟩) ∧ (∀ w a, (s w a).ctl.work = w) ∧
      (∃ ep sq origin check old, answeredWords [] 4194448 12 (journaled 3).words = ep :: sq :: origin :: check :: old) ∧
      verdictOf (answeredWords [] 4194448 12 (journaled 3).words) up.ctl.epochInEffect 3 = .valid ∧
      verdictOf (answeredWords [] 4194448 12 []) up.ctl.epochInEffect 3 ≠ .valid ∧
      2 ≤ (up.withWalkRemaining 2).ctl.walkRemaining ∧ (up.withWalkRemaining 1).ctl.walkRemaining ≤ 1 := by
  refine ⟨fun _ _ => rfl, fun _ _ => rfl, fun _ _ => rfl, ⟨_, _, _, _, _, rfl⟩, ?_⟩
  decide +kernel
/-- A report that does not halt, one that halts, and one that fails a CHECKPOINT in DRAIN. -/
theorem witness_FaultTaken :
    let halts (s : State) (k : FaultKind) : Prop :=
      (k = .oldRead ∨ k = .flush) ∧ s.ctl.journal = .ready ∧ s.ctl.op ≠ some .rollback
    ¬halts up .fetch ∧ halts up .flush ∧ halts (during .checkpoint .drain .rest) .oldRead ∧
      ¬halts (during .rollback .walk .rest) .flush ∧ (during .checkpoint .drain .rest).ctl.op = some .checkpoint ∧
      (during .checkpoint .drain .rest).ctl.phase = .drain := by decide +kernel
theorem witness_AnchorRoundTrip : area.legal = true ∧ table.legal area = true := by decide +kernel
/-- The last granule, and a record whose epoch and slot are those tested against. -/
theorem witness_RecordRoundTrip : (⟨7, 3, 8388607, 7, 7, []⟩ : JournalRecord).epoch ≠ 0 ∧
    (⟨7, 3, 8388607, 7, 7, []⟩ : JournalRecord).granule < 8388608 ∧
    (⟨7, 3, 8388607, 7, 7, []⟩ : JournalRecord).seq < 2 ^ 32 ∧ (⟨7, 3, 8388607, 7, 7, []⟩ : JournalRecord).region < 8 ∧
    (⟨7, 3, 8388607, 7, 7, []⟩ : JournalRecord).epoch ≠ 8 := by decide +kernel
theorem witness_NewestAnchorChosen : newer 0 4294967295 = true ∧ newer 40 41 = false ∧
    (2147483655 : Word) - 7 = 0x80000000 ∧ up.ctl.newest = some .a := by decide +kernel
/-- A state with a read at the front of its queue. -/
def reading : State := { up with pending := [.hostRead 1 4096 1] }
/-- The invariants hold at a state whose step answers next: MemoryKept, QueueStaysBounded, ReadySlotsFresh, QuietStaysTrue
and ControllerStaysSound. -/
theorem witness_invariants : reading.MemoryCanonical ∧ reading.QueueBounded ∧ reading.SlotsFresh ∧ reading.QuietHolds ∧
    reading.ControllerSound ∧ (∃ t, step reading = .next t) ∧
    (slot0 (.ready ⟨1, 4096, 1⟩ [5] 2000)).reads.slots[(0 : Fin 4)] = .ready ⟨1, 4096, 1⟩ [5] 2000 := by
  refine ⟨by unfold State.MemoryCanonical; decide +kernel, by unfold State.QueueBounded; decide +kernel, ?_, ?_, ?_,
    ⟨_, rfl⟩, by decide +kernel⟩
  · intro i; fin_cases i <;> trivial
  · intro h; exact absurd h (by decide +kernel)
  · refine ⟨?_, ?_, ?_⟩
    · intro _; decide +kernel
    · intro h; exact absurd h (by decide +kernel)
    · intro h; exact absurd h (by decide +kernel)
/-- A READY slot beside an entry of another granule is fresh, and beside one of its own it is not. -/
theorem witness_ReadySlotsFresh : ((slot0 (.ready ⟨1, 4096, 1⟩ [5] 2000)).withEntries [ent 9 .ready]).SlotsFresh ∧
    ¬((slot0 (.ready ⟨1, 4096, 1⟩ [5] 2000)).withEntries [ent 128 .ready]).SlotsFresh := by
  refine ⟨?_, fun h => ?_⟩
  · intro i; fin_cases i
    · exact (by decide +kernel : WriteQueue.addresses ⟨[ent 9 .ready], .idle⟩ 128 = false)
    all_goals trivial
  · have h0 : WriteQueue.addresses ⟨[ent 128 .ready], .idle⟩ 128 = false := h 0
    exact absurd h0 (by decide +kernel)
/-- PFQUIET asserted over a quiet part. -/
theorem witness_QuietStaysTrue : ({ held with faults := { held.faults with pfquiet := true } } : State).faults.pfquiet =
    true ∧ ({ held with faults := { held.faults with pfquiet := true } } : State).quiet = true := by decide +kernel

end Sys2Proof.Tests
end

section
/-! R97 and R107: the comparison of generations modulo 2^32, the newest valid anchor of the two copies, and the copy and
generation of the next one. -/

namespace Sys2Proof.Proofs

open Sys2Proof Sys2Proof.Machine

/-! ### The comparison -/

theorem newer_iff (a b : Word) :
    newer a b = true ↔ 1 ≤ (a - b).toNat ∧ (a - b).toNat ≤ 2147483647 := by
  simp [newer]

theorem newer_eq_false_iff (a b : Word) :
    newer a b = false ↔ (a - b).toNat = 0 ∨ 2 ^ 31 ≤ (a - b).toNat := by
  rw [← Bool.not_eq_true, newer_iff]
  omega

/-- The difference of two words as R97 writes it, over the natural numbers modulo 2^32. -/
theorem word_toNat_sub (a b : Word) : (a - b).toNat = (a.toNat + (2 ^ 32 - b.toNat)) % 2 ^ 32 := by
  rw [BitVec.toNat_sub, Nat.add_comm]

/-- The two differences of a pair of words add to 2^32, or both are 0: what R97 rests on when it compares the pair in
either order. -/
theorem word_toNat_sub_swap (a b : Word) : (b - a).toNat = (2 ^ 32 - (a - b).toNat) % 2 ^ 32 := by
  have ha := a.isLt
  have hb := b.isLt
  rw [word_toNat_sub, word_toNat_sub]
  omega

theorem newer_self (a : Word) : newer a a = false := by
  rw [newer_eq_false_iff, BitVec.sub_self]
  exact .inl rfl

theorem newer_asymm {a b : Word} (h : newer a b = true) : newer b a = false := by
  rw [newer_iff] at h
  rw [newer_eq_false_iff, word_toNat_sub_swap]
  omega

/-- A gap of exactly half the range: the test fails in either order. -/
theorem newer_of_sub_eq_half {a b : Word} (h : a - b = 0x80000000) :
    newer a b = false ∧ newer b a = false := by
  have half : (a - b).toNat = 2 ^ 31 := by rw [h]; rfl
  rw [newer_eq_false_iff, newer_eq_false_iff, word_toNat_sub_swap a b, half]
  omega

/-- The three cases of the last row of R97's table. -/
theorem newer_eq_false_of_lastRow {a b : Word}
    (h : newer a b = true ∨ a = b ∨ a - b = 0x80000000) : newer b a = false := by
  obtain older | rfl | half := h
  · exact newer_asymm older
  · exact newer_self a
  · exact (newer_of_sub_eq_half half).2

/-! ### The choice among the two copies -/

theorem newestOf_some_some_of_newer {x y : Anchor} (h : newer y.generation x.generation = true) :
    newestOf (some x) (some y) = some (.b, y) := by
  simp [newestOf, h]

theorem newestOf_some_some_of_not_newer {x y : Anchor}
    (h : newer y.generation x.generation = false) : newestOf (some x) (some y) = some (.a, x) := by
  simp [newestOf, h]

/-! ### The generation of the next anchor -/

/-- R107: with a newest anchor held, the next one carries the generation after it, whatever its phase and epoch. -/
theorem buildAnchor_generation_of_newest {s : State} {held : Copy} (h : s.ctl.newest = some held)
    (p : Phase) (e : Word) : (s.buildAnchor p e).generation = s.ctl.generation + 1 := by
  simp [State.buildAnchor, EpochController.nextGeneration, h]

/-- Settles O54: the comparison from the word difference modulo 2^32, the rows of R97's table one by one, and R107's
target and generation. -/
theorem newestAnchorChosen : Obligations.NewestAnchorChosen := by
  unfold Obligations.NewestAnchorChosen
  refine ⟨fun a b => ?comparison, rfl, fun _ => rfl, fun _ => rfl,
    fun _ _ => newestOf_some_some_of_newer, fun _ _ => newestOf_some_some_of_not_newer,
    fun _ _ => newer_of_sub_eq_half, fun _ _ => newer_eq_false_of_lastRow, rfl, rfl,
    fun _ p e _ held => buildAnchor_generation_of_newest held p e⟩
  case comparison => rw [← word_toNat_sub, newer_iff]

end Sys2Proof.Proofs
end

section
/-! R154. A slot is fresh for a queue by its own state and the granules that the queue addresses, so freshness is
judged in two ways: an operation on the slots is judged slot by slot (`mapSlots`, `setSlot`), and an operation on the
queue keeps it when it brings no new granule (`withEntries`). An acceptance alone brings one, and is judged with its
notice (`acceptWrite`). The lemmas are named after the operations, so that the chain that keeps freshness reads as the
operation itself. -/

namespace Sys2Proof.Machine

variable {s t : State} {q r : WriteQueue} {sl : Slot}

/-! ### One slot and the queue -/

theorem Slot.freshFor.mono (sub : ∀ g, q.addresses g = false → r.addresses g = false) (h : sl.freshFor q) :
    sl.freshFor r := by
  cases sl with
  | free | hazardWait | failed => trivial
  | fetchPending | ready => exact sub _ h
  | fetching => exact fun clear => sub _ (h clear)

theorem addresses_append_singleton (e : Entry) (g : Nat) :
    ({ q with entries := q.entries ++ [e] } : WriteQueue).addresses g = (q.addresses g || e.granule == g) := by
  simp [WriteQueue.addresses]

/-- R148: the hazard test decides between waiting and a request. -/
theorem Slot.allocated_freshFor (q : WriteQueue) (k : SlotKey) : (Slot.allocated q k).freshFor q := by
  unfold Slot.allocated
  split
  · trivial
  · rename_i clear; exact Bool.eq_false_iff.2 clear

/-- R149: a waiting slot becomes FETCH_PENDING only when the queue no longer addresses its granule. -/
theorem Slot.freshFor.afterDeparture (h : sl.freshFor q) (g : Nat) : (Slot.afterDeparture q g sl).freshFor q := by
  cases sl with
  | hazardWait k =>
    simp only [Slot.afterDeparture]
    split
    · rename_i left; exact (congrArg q.addresses left.1).trans left.2
    · trivial
  | free | fetchPending | fetching | ready | failed => exact h

/-- R150: a slot of another granule is as fresh for the longer queue. -/
theorem Slot.freshFor.append_of_not_holds {e : Entry} (h : sl.freshFor q) (other : sl.holdsGranule e.granule = false) :
    sl.freshFor { q with entries := q.entries ++ [e] } := by
  have ne {k : SlotKey} (hk : (k.granule == e.granule) = false) : (e.granule == k.granule) = false :=
    BEq.comm.trans hk
  cases sl with
  | free | hazardWait | failed => trivial
  | fetchPending k | ready k => exact (addresses_append_singleton _ _).trans (by rw [h, ne other]; rfl)
  | fetching k => exact fun clear => (addresses_append_singleton _ _).trans (by rw [h clear, ne other]; rfl)

/-- R150: the notice of an acceptance makes a slot of the entry's granule wait, or go stale. -/
theorem Slot.freshFor.afterAcceptance {e : Entry} (h : sl.freshFor q) :
    (Slot.afterAcceptance e.granule sl).freshFor { q with entries := q.entries ++ [e] } := by
  unfold Slot.afterAcceptance
  split
  · cases sl with
    | free | hazardWait | fetchPending | ready | failed => trivial
    | fetching k stale => exact fun clear => nomatch clear
  · rename_i other; exact h.append_of_not_holds (Bool.eq_false_iff.2 other)

/-- R157: a slot is freed or stays. -/
theorem Slot.freshFor.freedBy (h : sl.freshFor q) (g : Geometry) : (sl.freedBy g).freshFor q := by
  unfold Slot.freedBy
  split
  · exact h
  · split
    · trivial
    · exact h

/-- R151: a fetch is granted with the stale flag clear. -/
theorem Slot.freshFor.granted (h : sl.freshFor q) : sl.granted.freshFor q := by
  cases sl with
  | fetchPending => exact fun _ => h
  | free | hazardWait | fetching | ready | failed => exact h

/-- R152, R153: a stale fetch is allocated anew, and one that is not becomes READY with its granule still clear. -/
theorem Slot.freshFor.fetched (h : sl.freshFor q) (d : Nat) (words : Option (List Word)) :
    (sl.fetched q d words).freshFor q := by
  cases sl with
  | fetching k stale =>
    cases words with
    | none => trivial
    | some ws =>
      cases stale with
      | true => exact Slot.allocated_freshFor q k
      | false => exact h rfl
  | free | hazardWait | fetchPending | ready | failed => exact h

/-! ### Entries that change but not their granule -/

/-- R135: an entry that RESOLVE keeps keeps its granule. -/
theorem Entry.granule_of_kept {e e' : Entry} (kept : (s.fateOf e).kept? = some e') : e'.granule = e.granule := by
  unfold State.fateOf at kept
  split at kept
  · cases kept
  · split at kept
    · cases kept
    · cases kept; rfl
  · cases kept
  · cases kept; rfl

theorem Entry.atSwitch_granule (epoch : Word) (e : Entry) : (e.atSwitch epoch).granule = e.granule := by
  unfold Entry.atSwitch
  split <;> rfl

/-! ### The slots and the queue of a state -/

namespace State.SlotsFresh

theorem reset : State.reset.SlotsFresh := by
  intro i
  simp [State.reset, Slot.freshFor]

/-- R154: what freshness says of a READY slot. -/
theorem granule_ne_of_ready (h : s.SlotsFresh) {i : Fin 4} {k : SlotKey} {words : List Word} {timer : Nat}
    (ready : s.reads.slots[i] = .ready k words timer) : ∀ e ∈ s.pwq.entries, e.granule ≠ k.granule := by
  have fresh := h i
  rw [ready] at fresh
  exact (addresses_false _ _).1 fresh

theorem mapSlots (h : s.SlotsFresh) {f : Slot → Slot} (hf : ∀ sl, sl.freshFor s.pwq → (f sl).freshFor s.pwq) :
    (s.withReads (s.reads.mapSlots f)).SlotsFresh := by
  intro i
  rw [State.withReads_reads, mapSlots_get]
  exact hf _ (h i)

theorem setSlot (h : s.SlotsFresh) (i : Fin 4) (fresh : sl.freshFor s.pwq) :
    (s.withReads (s.reads.setSlot i sl)).SlotsFresh := by
  intro j
  rw [State.withReads_reads, State.withReads_pwq]
  obtain rfl | ne := eq_or_ne i j
  · rwa [setSlot_get]
  · rw [setSlot_get_ne _ _ ne]; exact h j

theorem freeSlot (h : s.SlotsFresh) (i : Fin 4) : (s.withReads (s.reads.setSlot i .free)).SlotsFresh :=
  h.setSlot i trivial

/-- A queue whose granules were all there before keeps the slots fresh. -/
theorem withEntries (h : s.SlotsFresh) {es : List Entry}
    (old : ∀ e ∈ es, ∃ x ∈ s.pwq.entries, x.granule = e.granule) : (s.withEntries es).SlotsFresh := by
  refine fun i => (h i).mono fun g clear => ?_
  rw [addresses_false] at clear ⊢
  intro e he
  obtain ⟨x, hx, same⟩ := old e he
  exact same ▸ clear x hx

theorem withEntries_of_subset (h : s.SlotsFresh) {es : List Entry} (sub : es ⊆ s.pwq.entries) :
    (s.withEntries es).SlotsFresh :=
  h.withEntries fun e he => ⟨e, sub he, rfl⟩

theorem withEntries_map (h : s.SlotsFresh) {f : Entry → Entry} (same : ∀ e, (f e).granule = e.granule) :
    (s.withEntries (s.pwq.entries.map f)).SlotsFresh := by
  refine h.withEntries fun e he => ?_
  obtain ⟨x, hx, rfl⟩ := List.mem_map.1 he
  exact ⟨x, hx, (same x).symm⟩

/-- A head that changes, but not its granule. -/
theorem withEntries_head (h : s.SlotsFresh) {head head' : Entry} {rest : List Entry}
    (hq : s.pwq.entries = head :: rest) (same : head'.granule = head.granule) :
    (s.withEntries (head' :: rest)).SlotsFresh := by
  refine h.withEntries fun e he => ?_
  rw [hq]
  obtain rfl | behind := List.mem_cons.1 he
  · exact ⟨head, List.mem_cons_self, same.symm⟩
  · exact ⟨e, List.mem_cons_of_mem _ behind, rfl⟩

/-- An entry that changes in its place, but not its granule. -/
theorem withEntries_set (h : s.SlotsFresh) {i : Nat} {e e' : Entry} (at_i : s.pwq.entries[i]? = some e)
    (same : e'.granule = e.granule := by rfl) : (s.withEntries (s.pwq.entries.set i e')).SlotsFresh := by
  refine h.withEntries fun x hx => ?_
  obtain elsewhere | rfl := List.mem_or_eq_of_mem_set hx
  · exact ⟨x, elsewhere, rfl⟩
  · exact ⟨e, List.mem_of_getElem? at_i, same.symm⟩

theorem either {c : Prop} [Decidable c] (ht : t.SlotsFresh) (hs : s.SlotsFresh) :
    (if c then t else s).SlotsFresh := by
  split <;> assumption

/-! ### Updates that touch neither the slots nor the queue's entries -/

section Untouched

variable (h : s.SlotsFresh)
include h

theorem bump (k : Counter) : (s.bump k).SlotsFresh := h
theorem setCause (c : Cause) : (s.setCause c).SlotsFresh := h
theorem answerHost (a : HostResponse) : (s.answerHost a).SlotsFresh := h
theorem withClassifier (c : Classifier) : (s.withClassifier c).SlotsFresh := h
theorem withJournal (j : JournalState) : (s.withJournal j).SlotsFresh := h
theorem withPhase (p : Phase) (w : EpochWork) : (s.withPhase p w).SlotsFresh := h
theorem withWork (w : EpochWork) : (s.withWork w).SlotsFresh := h
theorem withHaltedCause (c : Option HaltCause) : (s.withHaltedCause c).SlotsFresh := h
theorem withWriter (w : JournalWriter) : (s.withWriter w).SlotsFresh := h
theorem withMaps (m : TouchMaps) : (s.withMaps m).SlotsFresh := h
theorem withPort (p : Option InFlight) : (s.withPort p).SlotsFresh := h
theorem withMem (m : Mem) : (s.withMem m).SlotsFresh := h
theorem withInReset (b : Bool) : ({ s with inReset := b } : State).SlotsFresh := h
theorem withFaults (f : FaultLogic) : ({ s with faults := f } : State).SlotsFresh := h
theorem withPending (cs : List Instr) : (s.withPending cs).SlotsFresh := h
theorem withDrain (b : Bool) : (s.withDrain b).SlotsFresh := h
theorem withCountUnknown (b : Bool) : (s.withCountUnknown b).SlotsFresh := h
theorem withWalkRemaining (n : Nat) : (s.withWalkRemaining n).SlotsFresh := h
theorem withStartCycle (c : StartCycle) : (s.withStartCycle c).SlotsFresh := h
theorem flushItemDone (ok : Bool) : (s.flushItemDone ok).SlotsFresh := h
theorem readItemDone (ok : Bool) : (s.readItemDone ok).SlotsFresh := h
theorem recordFault (r : FaultReport) : (s.recordFault r).SlotsFresh := h
theorem activateStaged : s.activateStaged.SlotsFresh := h
theorem acknowledge (a : Anchor) : (s.acknowledge a).SlotsFresh := h
theorem loaded (copy : Copy) (a : Anchor) : (s.loaded copy a).SlotsFresh := h
theorem openEpoch : s.openEpoch.SlotsFresh := h
theorem startAnchor (p : Phase) (e : Word) : (s.startAnchor p e).SlotsFresh := h
theorem enterScan : s.enterScan.SlotsFresh := h
theorem beginClear : s.beginClear.SlotsFresh := h
theorem admitted (kind : OpKind) (args : Option Geometry) : (s.admitted kind args).SlotsFresh := h
theorem frozenIn (p : Phase) : (s.frozenIn p).SlotsFresh := h
theorem collect (bytes : List Byte) (clocks : Nat) : (s.collect bytes clocks).SlotsFresh := h

end Untouched

/-! ### The shared operations of the blocks -/

theorem answered (h : s.SlotsFresh) (isError : Bool) : (s.answered isError).SlotsFresh :=
  either ((h.withPort _).bump _) (h.withPort _)

theorem endOp (h : s.SlotsFresh) (o : OpOutcome) : (s.endOp o).SlotsFresh := by
  unfold State.endOp
  split <;> exact h

theorem haltOn (h : s.SlotsFresh) (c : HaltCause) : (s.haltOn c).SlotsFresh :=
  have halted := ((h.withJournal .halted).withHaltedCause (some c)).setCause .halted
  either h (either (halted.endOp _) halted)

theorem report (h : s.SlotsFresh) (r : FaultReport) : (s.report r).SlotsFresh := by
  unfold State.report
  split
  · exact (h.recordFault r).haltOn _
  · exact (h.recordFault r).haltOn _
  · exact h.recordFault r

theorem quietTest (h : s.SlotsFresh) : s.quietTest.SlotsFresh := either h h

theorem noteDeparture (h : s.SlotsFresh) (g : Nat) : (s.noteDeparture g).SlotsFresh :=
  h.mapSlots fun _ fresh => fresh.afterDeparture g

theorem depart (h : s.SlotsFresh) (i : Nat) : (s.depart i).SlotsFresh := by
  unfold State.depart
  split
  · exact h
  · exact (h.withEntries_of_subset List.eraseIdx_subset).noteDeparture _

/-- R156: FREE slots are fresh whatever the queue holds. -/
theorem freeAllSlots (s : State) : s.freeAllSlots.SlotsFresh := fun i => by
  rw [freeAllSlots_get]
  trivial

theorem examineHead (h : s.SlotsFresh) : s.examineHead.SlotsFresh := by
  unfold State.examineHead
  obtain same | ⟨head, rest, _, hq, -, -, -, changed⟩ := headReady_cases s.writer.durable s.pwq.entries
  · rw [same]; exact h
  · rw [changed]; exact h.withEntries_head hq rfl

theorem sealTest (h : s.SlotsFresh) : s.sealTest.SlotsFresh := by
  rw [sealTest_shape]
  exact h

theorem coalesceExpired (h : s.SlotsFresh) : s.coalesceExpired.SlotsFresh := (h.withWriter _).sealTest

theorem coalesceTest (h : s.SlotsFresh) : s.coalesceTest.SlotsFresh := by
  rw [coalesceTest_shape]
  exact h

theorem writePath (h : s.SlotsFresh) : s.writePath.SlotsFresh := h.examineHead.sealTest.coalesceTest

theorem warnTest (h : s.SlotsFresh) : s.warnTest.SlotsFresh := either ((h.withWriter _).setCause _) h

theorem fullReport (h : s.SlotsFresh) : s.fullReport.SlotsFresh := either ((h.withWriter _).setCause _) h

/-! ### The epoch controller's phases -/

theorem withGeometry (h : s.SlotsFresh) (g : Geometry) : (s.withGeometry g).SlotsFresh :=
  either h (h.mapSlots fun _ fresh => fresh.freedBy g)

theorem activate (h : s.SlotsFresh) : s.activate.SlotsFresh := by
  unfold State.activate
  have table : (if activatesTable s.ctl.op s.ctl.phase then s.activateStaged else s).SlotsFresh :=
    either h.activateStaged h
  dsimp only
  split
  · exact table.withGeometry _
  · exact table

theorem enterSweepWait (h : s.SlotsFresh) : s.enterSweepWait.SlotsFresh := by
  rw [enterSweepWait_shape]
  exact h

theorem sweepWaitTest (h : s.SlotsFresh) : s.sweepWaitTest.SlotsFresh :=
  either (either (h.startAnchor _ _) (h.startAnchor _ _)) h

theorem drainTest (h : s.SlotsFresh) : s.drainTest.SlotsFresh := either (h.withDrain _).enterSweepWait h

theorem enterDrain (h : s.SlotsFresh) : s.enterDrain.SlotsFresh :=
  ((h.withPhase _ _).withDrain _).sealTest.drainTest

theorem freezeTest (h : s.SlotsFresh) : s.freezeTest.SlotsFresh := either h.enterDrain h

theorem enterWalk (h : s.SlotsFresh) : s.enterWalk.SlotsFresh :=
  either (h.withWalkRemaining _).enterSweepWait ((h.withWalkRemaining _).withPhase _ _)

theorem resolveTest (h : s.SlotsFresh) : s.resolveTest.SlotsFresh :=
  have trimmed : s.trimTest.SlotsFresh := either h (h.withWriter _)
  either (either trimmed.enterScan trimmed.enterWalk) trimmed

theorem chargeFate (h : s.SlotsFresh) (e : Entry) (f : Fate) : (s.chargeFate e f).SlotsFresh := by
  cases f with
  | discard => exact (h.noteDeparture _).bump _
  | tableDiscard => exact ((h.noteDeparture _).bump _).report _
  | elide => exact (h.noteDeparture _).bump _
  | keep => exact h

theorem resolveQueue (h : s.SlotsFresh) : s.resolveQueue.SlotsFresh := by
  refine List.foldlRecOn _ _ (h.withEntries fun e he => ?_) fun _ fresh e _ => fresh.chargeFate e _
  obtain ⟨x, hx, kept⟩ := List.mem_filterMap.1 he
  exact ⟨x, hx, (Entry.granule_of_kept kept).symm⟩

theorem enterResolve (h : s.SlotsFresh) : s.enterResolve.SlotsFresh :=
  have resolved := (h.withPhase .resolve .rest).resolveQueue
  have left : (s.withPhase .resolve .rest).resolveQueue.resolveClassifier.SlotsFresh :=
    either resolved (resolved.withClassifier .idle)
  (left.withWriter _).resolveTest

theorem quiesceTest (h : s.SlotsFresh) : s.quiesceTest.SlotsFresh := either h h.enterResolve

theorem resumeTest (h : s.SlotsFresh) : s.resumeTest.SlotsFresh :=
  either h (either (h.endOp _) (either (h.endOp _) (((h.withJournal _).withHaltedCause _).endOp _)))

theorem advance (h : s.SlotsFresh) : s.advance.SlotsFresh := by
  unfold State.advance
  split
  · exact h.freezeTest
  · exact h.drainTest
  · exact h.quiesceTest
  · exact h.resolveTest
  · exact h.resumeTest
  · exact h

theorem settle (h : s.SlotsFresh) : s.settle.SlotsFresh := h.writePath.advance.quietTest

/-! ### Switch point, start-up's end and failures -/

theorem switchPoint (h : s.SlotsFresh) : s.switchPoint.SlotsFresh :=
  have requeued := h.openEpoch.withEntries_map (Entry.atSwitch_granule s.ctl.epochInEffect)
  (((((requeued.withCountUnknown _).withWalkRemaining _).withJournal _).withHaltedCause _).endOp _).bump _

theorem endStart (h : s.SlotsFresh) (j : JournalState) : (s.endStart j).SlotsFresh := by
  unfold State.endStart
  exact either h h

theorem restartDone (h : s.SlotsFresh) : s.restartDone.SlotsFresh := (h.openEpoch.bump _).endStart _

theorem clearResumed (h : s.SlotsFresh) : s.clearResumed.SlotsFresh := ((h.withWriter _).bump _).endStart _

theorem failIntoRecovery (h : s.SlotsFresh) : s.failIntoRecovery.SlotsFresh :=
  have retired : s.retireTest.SlotsFresh := either (h.withMaps _) h
  ((retired.withJournal _).withHaltedCause _).endOp _

theorem discardLost (h : s.SlotsFresh) : s.discardLost.SlotsFresh :=
  have kept := h.withEntries_of_subset (List.filter_subset_self (p := fun e => !s.lostToClear e) _)
  List.foldlRecOn _ _ kept fun _ fresh _ _ => (fresh.noteDeparture _).bump _

theorem cycleFailed (h : s.SlotsFresh) : s.cycleFailed.SlotsFresh :=
  either (h.endStart _) h.discardLost.failIntoRecovery

theorem anchorFailed (h : s.SlotsFresh) : s.anchorFailed.SlotsFresh := by
  unfold State.anchorFailed
  refine either (h.endStart _) (either h.cycleFailed ?_)
  split
  · exact (h.withJournal _).endOp _
  · exact h.failIntoRecovery
  · exact h.endOp _

theorem anchorWriteFailed (h : s.SlotsFresh) (a : Anchor) : (s.anchorWriteFailed a).SlotsFresh :=
  (h.report _).anchorFailed

theorem anchorAcknowledged (h : s.SlotsFresh) (a : Anchor) : (s.anchorAcknowledged a).SlotsFresh := by
  unfold State.anchorAcknowledged
  have active := (h.acknowledge a).activate
  dsimp only
  split
  · exact active.switchPoint
  · exact active.beginClear
  · exact either (either active.restartDone active.clearResumed) active.switchPoint
  · exact active.restartDone
  · exact active.withPhase _ _

theorem enterRestart (h : s.SlotsFresh) : s.enterRestart.SlotsFresh :=
  either ((h.withStartCycle _).startAnchor _ _) (h.startAnchor _ _)

theorem scanCompleted (h : s.SlotsFresh) (d : Nat) : (s.scanCompleted d).SlotsFresh :=
  have counted := (h.withWriter (s.writer.withCounts d)).withCountUnknown false
  either (either counted.enterRestart (counted.endStart _)) counted.enterWalk

theorem scanFailed (h : s.SlotsFresh) (i : Nat) : (s.scanFailed i).SlotsFresh :=
  have counted := ((h.report _).withWriter _).withCountUnknown true
  either (counted.endStart _) counted.failIntoRecovery

theorem walkFailed (h : s.SlotsFresh) (r : FaultReport) : (s.walkFailed r).SlotsFresh :=
  ((h.report r).withCountUnknown true).failIntoRecovery

theorem selectAnchor (h : s.SlotsFresh) (found : Option (Copy × Anchor)) : (s.selectAnchor found).SlotsFresh := by
  unfold State.selectAnchor
  split
  · exact h.endStart _
  · rename_i copy a
    have placed := (h.loaded copy a).withGeometry a.geometry
    exact either ((placed.withStartCycle _).withPhase _ _) (placed.withPhase _ _)

/-! ### Host requests -/

theorem hostError (h : s.SlotsFresh) : s.hostError.SlotsFresh := (h.answerHost _).bump _

theorem hostRetry (h : s.SlotsFresh) (k : Counter) : (s.hostRetry k).SlotsFresh := (h.answerHost _).bump _

theorem readMatched (h : s.SlotsFresh) (i : Fin 4) : (s.readMatched i).SlotsFresh := by
  unfold State.readMatched
  split
  · exact ((h.freeSlot i).answerHost _).bump _
  · exact (h.freeSlot i).hostError
  · exact h.hostRetry _

/-- R147, R148: the slot allocated is fresh by the hazard test. -/
theorem readAllocated (h : s.SlotsFresh) (k : SlotKey) : (s.readAllocated k).SlotsFresh := by
  unfold State.readAllocated
  split
  · rename_i i _
    exact (h.setSlot i (Slot.allocated_freshFor s.pwq k)).hostRetry _
  · exact h.hostRetry _

theorem decideRead (h : s.SlotsFresh) (k : SlotKey) : (s.decideRead k).SlotsFresh := by
  refine either (h.hostRetry _) ?_
  unfold State.slotRead
  split
  · exact h.readMatched _
  · exact h.readAllocated k

/-- R26, R150: the new entry and its notice together keep the slots fresh; the entry alone would not. -/
theorem acceptWrite (h : s.SlotsFresh) (e : Entry) : (s.acceptWrite e).SlotsFresh := by
  intro i
  have notified := noteAcceptance_get (s.withEntries (s.pwq.entries ++ [e])) e.granule i
  exact notified ▸ (h i).afterAcceptance

theorem decideWrite (h : s.SlotsFresh) (e : Entry) : (s.decideWrite e).SlotsFresh :=
  either h.hostError (either (h.hostRetry _) (either (h.hostRetry _) (either (h.hostRetry _) (h.acceptWrite e))))

theorem decideHost (h : s.SlotsFresh) (decided : t.SlotsFresh) (addr : BitVec 28) (len : Nat) :
    (s.decideHost addr len t).SlotsFresh :=
  either h.hostError (either (h.hostRetry _) (either h.hostError decided))

/-! ### The write lane -/

theorem takeEntry (h : s.SlotsFresh) {i : Nat} {e : Entry} (at_i : s.pwq.entries[i]? = some e) :
    (s.takeEntry i e).SlotsFresh := by
  have discarded : (s.takeDiscard i e).SlotsFresh := ((h.depart i).bump _).report _
  have elided : (s.takeElide i).SlotsFresh := (h.depart i).bump _
  have readied : (s.takeReady i e).SlotsFresh := h.withEntries_set at_i
  unfold State.takeEntry
  split
  case h_1 | h_2 | h_3 => exact discarded
  case h_4 => exact either elided readied
  case h_5 region touch elide _ =>
    have recorded : (s.takeRecord i e region touch elide).SlotsFresh :=
      either h.fullReport (either ((h.withEntries_set at_i).withClassifier _) h)
    exact either elided (either readied recorded)

theorem classifierTake (h : s.SlotsFresh) : s.classifierTake.SlotsFresh := by
  unfold State.classifierTake
  split
  · split
    · exact h
    · split
      · exact h
      · rename_i at_i; exact (h.takeEntry at_i).quietTest
  · exact h

theorem buildRecord (h : s.SlotsFresh) (c : Classification) {i : Nat} {e : Entry}
    (at_i : s.pwq.entries[i]? = some e) (old : List Word) : (s.buildRecord c i e old).SlotsFresh :=
  have placed := (h.withWriter (s.writer.placed (s.recordFor c old))).bump .recordsCreated
  ((placed.withMaps (s.maps.setTouch c.touch)).withEntries_set at_i).withClassifier .idle

theorem oldDataOkay (h : s.SlotsFresh) (c : Classification) {i : Nat} {e : Entry}
    (at_i : s.pwq.entries[i]? = some e) (old : List Word) : (s.oldDataOkay c i e old).SlotsFresh :=
  either (((h.depart i).bump _).withClassifier _) (h.buildRecord c at_i old)

theorem oldDataAnswered (h : s.SlotsFresh) (c : Classification) (old : Option (List Word)) :
    (s.oldDataAnswered c old).SlotsFresh := by
  unfold State.oldDataAnswered
  split
  · split
    · exact h.withClassifier _
    · exact (h.withClassifier _).report _
  · split
    · rename_i at_i; exact h.oldDataOkay c at_i _
    · exact (h.withClassifier _).report _

theorem oldDataReadDone (h : s.SlotsFresh) (answer : ReadAnswer) : (s.oldDataReadDone answer).SlotsFresh := by
  unfold State.oldDataReadDone
  split
  · exact (((h.answered _).oldDataAnswered _ _).readItemDone _).settle
  · exact h

theorem recordOkay (h : s.SlotsFresh) (b : Bool) (rest : List JournalRecord) : (s.recordOkay b rest).SlotsFresh :=
  have counted := (h.withWriter (s.writer.recordDurable b rest)).warnTest
  either (counted.flushItemDone true) counted

theorem recordError (h : s.SlotsFresh) (b : Bool) (r : JournalRecord) : (s.recordError b r).SlotsFresh :=
  ((h.withWriter _).report _).flushItemDone false

theorem recordWriteDone (h : s.SlotsFresh) (answer : WriteAnswer) : (s.recordWriteDone answer).SlotsFresh := by
  unfold State.recordWriteDone
  split
  · split
    · have idle (m : Mem) := (h.withMem m).answered answer.isError
      exact (either ((idle _).recordError _ _) ((idle _).recordOkay _ _)).settle
    · exact h
  · exact h

theorem commitWriteDone (h : s.SlotsFresh) (answer : WriteAnswer) : (s.commitWriteDone answer).SlotsFresh := by
  unfold State.commitWriteDone
  split
  · have departed (m : Mem) := ((h.withMem m).answered answer.isError).depart 0
    exact either (either ((departed _).report _) ((departed _).bump _)).settle h
  · exact h

/-! ### Sweeps and the answers to the epoch controller -/

theorem sweepFollows (h : s.SlotsFresh) : s.sweepFollows.SlotsFresh := by
  unfold State.sweepFollows
  split
  · exact either (h.withPhase _ _) h
  · exact h.sweepWaitTest
  · exact h

theorem copyRead (h : s.SlotsFresh) (copy : Copy) (copyA found : Option Anchor) :
    (s.copyRead copy copyA found).SlotsFresh := by
  cases copy with
  | a => exact h.withWork _
  | b => exact h.selectAnchor _

theorem anchorReadAnswered (h : s.SlotsFresh) (copy : Copy) (first : Option (List Word)) (copyA : Option Anchor)
    (words : Option (List Word)) : (s.anchorReadAnswered copy first copyA words).SlotsFresh := by
  unfold State.anchorReadAnswered
  split
  · exact h.copyRead _ _ _
  · exact h.withWork _
  · exact h.copyRead _ _ _

theorem anchorReadDone (h : s.SlotsFresh) (answer : ReadAnswer) : (s.anchorReadDone answer).SlotsFresh := by
  unfold State.anchorReadDone
  split
  · exact (h.answered _).anchorReadAnswered _ _ _ _
  · exact h

theorem anchorWriteAnswered (h : s.SlotsFresh) (second : Bool) (a : Anchor) (isError : Bool) :
    (s.anchorWriteAnswered second a isError).SlotsFresh := by
  unfold State.anchorWriteAnswered
  split
  · exact h.withWork _
  · exact h.anchorAcknowledged a
  · exact h.anchorWriteFailed a
  · exact h.withWork _

theorem anchorWriteDone (h : s.SlotsFresh) (answer : WriteAnswer) : (s.anchorWriteDone answer).SlotsFresh := by
  unfold State.anchorWriteDone
  split
  · exact (((h.withMem _).answered _).anchorWriteAnswered _ _ _).quietTest
  · exact h

theorem readBackAnswered (h : s.SlotsFresh) (first : Option (List Word)) (a : Anchor) (words : Option (List Word)) :
    (s.readBackAnswered first a words).SlotsFresh := by
  unfold State.readBackAnswered
  split
  · exact h.withWork _
  · exact h.withWork _
  · exact either (h.anchorAcknowledged a) (h.anchorWriteFailed a)

theorem anchorReadBackDone (h : s.SlotsFresh) (answer : ReadAnswer) : (s.anchorReadBackDone answer).SlotsFresh := by
  unfold State.anchorReadBackDone
  split
  · exact ((h.answered _).readBackAnswered _ _ _).quietTest
  · exact h

theorem clearAnswered (h : s.SlotsFresh) (acc : Access) (k : Nat) (isError : Bool) :
    (s.clearAnswered acc k isError).SlotsFresh :=
  either (h.report _).cycleFailed (either (h.withWork _) (h.startAnchor _ _))

theorem clearWriteDone (h : s.SlotsFresh) (answer : WriteAnswer) : (s.clearWriteDone answer).SlotsFresh := by
  unfold State.clearWriteDone
  split
  · exact (((h.withMem _).answered _).clearAnswered _ _ _).quietTest
  · exact h

theorem scanAnswered (h : s.SlotsFresh) (i : Nat) (words : Option (List Word)) :
    (s.scanAnswered i words).SlotsFresh := by
  cases words with
  | none => exact h.scanFailed i
  | some ws => exact either (either (h.withWork _) (h.scanCompleted _)) (h.scanCompleted i)

theorem scanReadDone (h : s.SlotsFresh) (answer : ReadAnswer) : (s.scanReadDone answer).SlotsFresh := by
  unfold State.scanReadDone
  split
  · exact ((h.answered _).scanAnswered _ _).quietTest
  · exact h

theorem walkReadAnswered (h : s.SlotsFresh) (i : Nat) (words : Option (List Word)) :
    (s.walkReadAnswered i words).SlotsFresh := by
  cases words with
  | none => exact h.walkFailed _
  | some ws => exact either (h.withWork _) (h.walkFailed _)

theorem walkReadDone (h : s.SlotsFresh) (answer : ReadAnswer) : (s.walkReadDone answer).SlotsFresh := by
  unfold State.walkReadDone
  split
  · exact ((h.answered _).walkReadAnswered _ _).quietTest
  · exact h

theorem walkRestored (h : s.SlotsFresh) (i : Nat) : (s.walkRestored i).SlotsFresh :=
  have counted := h.withWalkRemaining (s.ctl.walkRemaining - 1)
  either counted.enterSweepWait (counted.withWork _)

theorem walkWriteDone (h : s.SlotsFresh) (answer : WriteAnswer) : (s.walkWriteDone answer).SlotsFresh := by
  unfold State.walkWriteDone
  split
  · have idle (m : Mem) := (h.withMem m).answered answer.isError
    exact (either ((idle _).walkFailed _) ((idle _).walkRestored _)).quietTest
  · exact h

/-! ### The memory port and the read lane -/

theorem grantedTo (h : s.SlotsFresh) (r : Requester) : (s.grantedTo r).SlotsFresh := by
  cases r with
  | commitStage =>
    change (s.withEntries (headCommitting s.pwq.entries)).SlotsFresh
    cases hq : s.pwq.entries with
    | nil => exact h.withEntries nofun
    | cons head rest => exact h.withEntries_head hq rfl
  | readSlot i => exact h.setSlot i (h i).granted
  | epochController | journalWriter | classifier | servicePort => exact h

theorem fetchAnswered (h : s.SlotsFresh) (i : Fin 4) (words : Option (List Word)) :
    (s.fetchAnswered i words).SlotsFresh := by
  have fetched := h.setSlot i ((h i).fetched s.reads.discardTime words)
  unfold State.fetchAnswered
  split
  · exact either (fetched.report _) fetched
  · exact h

theorem fetchDone (h : s.SlotsFresh) (answer : ReadAnswer) : (s.fetchDone answer).SlotsFresh := by
  unfold State.fetchDone
  split
  · exact (h.answered _).fetchAnswered _ _
  · exact h

/-! ### The service port -/

/-- R185: the slot discard time changes, and the slots stay. -/
theorem tuned (h : s.SlotsFresh) (threshold : Byte) (coalesce discard : BitVec 16) (warning : Word) (mask : Byte) :
    (s.tuned threshold coalesce discard warning mask).SlotsFresh := h

theorem thresholdTest (h : s.SlotsFresh) (old : Nat) : (s.thresholdTest old).SlotsFresh := either h h.sealTest

theorem settingTest (h : s.SlotsFresh) (old : Option Nat) : (s.settingTest old).SlotsFresh := either h h.warnTest

theorem setTuningRule (h : s.SlotsFresh) (threshold : Byte) (coalesce discard : BitVec 16) (warning : Word)
    (mask : Byte) : (s.setTuningRule threshold coalesce discard warning mask).state.SlotsFresh := by
  unfold State.setTuningRule
  split
  · exact ((h.tuned _ _ _ _ _).thresholdTest _).settingTest _
  · exact h

theorem stageRegionRule (h : s.SlotsFresh) (index : Byte) (e : StoredEntry) :
    (s.stageRegionRule index e).state.SlotsFresh := by
  unfold State.stageRegionRule
  split
  · exact h
  · split
    · exact h
    · split <;> exact h

theorem getRegionRule (h : s.SlotsFresh) (copy index : Byte) : (s.getRegionRule copy index).state.SlotsFresh := by
  unfold State.getRegionRule
  split
  · exact h
  · split <;> exact h

theorem checkpointRule (h : s.SlotsFresh) : s.checkpointRule.state.SlotsFresh := by
  unfold State.checkpointRule
  split
  · exact h
  · split
    · exact ((h.admitted _ _).frozenIn _).freezeTest
    · exact h

theorem adoptRule (h : s.SlotsFresh) : s.adoptRule.state.SlotsFresh := by
  unfold State.adoptRule
  split
  · exact h
  · split
    · exact (h.admitted _ _).enterSweepWait
    · exact h

theorem formatRule (h : s.SlotsFresh) (base size : Word) : (s.formatRule base size).state.SlotsFresh := by
  unfold State.formatRule
  split
  · exact h
  · dsimp only
    split
    · split
      · exact ((h.admitted _ _).frozenIn _).freezeTest
      · exact h
    · exact h

/-- R156: an admitted ROLLBACK frees every slot first. -/
theorem rollbackRule (h : s.SlotsFresh) : s.rollbackRule.state.SlotsFresh := by
  unfold State.rollbackRule
  split
  · exact h
  · exact (freeAllSlots _).quiesceTest

theorem resumeFlushes (h : s.SlotsFresh) : s.resumeFlushes.SlotsFresh := by
  unfold State.resumeFlushes
  split <;> exact h

theorem resumeReads (h : s.SlotsFresh) : s.resumeReads.SlotsFresh := by
  unfold State.resumeReads
  split <;> exact h

theorem resumeRule (h : s.SlotsFresh) : s.resumeRule.state.SlotsFresh := by
  unfold State.resumeRule
  split
  · exact h
  · exact ((h.admitted _ _).withPhase _ _).resumeFlushes.resumeReads.resumeTest

theorem peekRecordRule (h : s.SlotsFresh) (slot : Word) : (s.peekRecordRule slot).state.SlotsFresh := by
  unfold State.peekRecordRule
  split
  · exact h
  · split <;> exact h

theorem ruleOf (h : s.SlotsFresh) (c : ServiceCommand) : (s.ruleOf c).state.SlotsFresh := by
  cases c with
  | getStatus | getFault | clearFault | getCounters | clearCounters | clearAttention => exact h
  | setTuning => exact h.setTuningRule _ _ _ _ _
  | stageRegion => exact h.stageRegionRule _ _
  | getRegion => exact h.getRegionRule _ _
  | format => exact h.formatRule _ _
  | checkpoint => exact h.checkpointRule
  | adopt => exact h.adoptRule
  | rollback => exact h.rollbackRule
  | resume => exact h.resumeRule
  | peekRecord => exact h.peekRecordRule _

theorem execute (h : s.SlotsFresh) (c : ServiceCommand) : (s.execute c).state.SlotsFresh := by
  unfold State.execute
  split
  · exact h
  · exact h.ruleOf c

/-- R181: the answer touches the response buffer alone. -/
theorem answer {r : Reply} (h : r.state.SlotsFresh) (tag : Byte) : (r.answer tag).SlotsFresh := h

theorem unlessPending (h : s.SlotsFresh) (decided : t.SlotsFresh) : (s.unlessPending t).SlotsFresh :=
  either (h.bump _) decided

theorem serviceRequest (h : s.SlotsFresh) (tag : Byte) (c : ServiceCommand) : (s.serviceRequest tag c).SlotsFresh :=
  have heard := h.collect _ _
  heard.unlessPending (answer (heard.execute c) tag)

theorem decideFrame (h : s.SlotsFresh) (v : FrameVerdict) : (s.decideFrame v).SlotsFresh := by
  cases v with
  | malformed | unknown | badLength => exact h
  | command tag c => exact answer (h.execute c) tag

theorem servicePeriod (h : s.SlotsFresh) (period : List Byte) : (s.servicePeriod period).SlotsFresh := by
  cases period with
  | nil => exact h
  | cons type bytes =>
    have heard := h.collect bytes (1 + bytes.length)
    exact either (heard.unlessPending (heard.decideFrame _)) (either h h)

theorem peekReadDone (h : s.SlotsFresh) (answer : ReadAnswer) : (s.peekReadDone answer).SlotsFresh := by
  unfold State.peekReadDone
  split
  · exact h.answered _
  · exact h

end State.SlotsFresh

/-! ### The commands -/

/-- Whatever state an outcome goes on with has its slots fresh. -/
def NextFresh (o : Host.Outcome State Fault Refusal) : Prop := ∀ t, o = .next t → t.SlotsFresh

theorem State.SlotsFresh.next (h : s.SlotsFresh) : NextFresh (.next s) := by
  rintro _ ⟨⟩
  exact h

theorem State.SlotsFresh.running (h : s.SlotsFresh) (ran : t.SlotsFresh) : NextFresh (s.running t) :=
  (either h ran).next

theorem nextFresh_fault (r : Fault) : NextFresh (.fault r) := by
  intro t ends
  cases ends

theorem execMemoryGrant_nextFresh (h : s.SlotsFresh) : NextFresh (execMemoryGrant s) := by
  unfold execMemoryGrant
  split
  · exact h.next
  · split
    · split
      · exact ((h.grantedTo _).withPort _).next
      · exact nextFresh_fault _
    · exact h.next

/-- R33: RESET frees every slot. -/
theorem execResetAsserted_nextFresh (left : List Byte) (s : State) : NextFresh (execResetAsserted left s) :=
  State.SlotsFresh.next State.SlotsFresh.reset

theorem exec_nextFresh (i : Instr) (h : s.SlotsFresh) : NextFresh (exec i s) := by
  cases i with
  | hostRead master addr len => exact h.running (h.decideHost (h.decideRead _) addr len)
  | hostWrite master addr len data => exact h.running (h.decideHost (h.decideWrite _) addr len)
  | resetAsserted left => exact execResetAsserted_nextFresh left s
  | resetReleased => exact (((h.withInReset false).withPhase .mapSweep .rest).quietTest.either h).next
  | pfailAsserted => exact (h.either (h.withFaults _).sealTest.quietTest).next
  | pfailDeasserted => exact (h.withFaults _).next
  | getStatus | getFault | clearFault | getCounters | clearCounters | setTuning | stageRegion | getRegion | format
  | checkpoint | adopt | rollback | resume | peekRecord | clearAttention => exact h.running (h.serviceRequest _ _)
  | responseFetch clocked => exact h.running h
  | memoryGrant => exact execMemoryGrant_nextFresh h
  | classifierTake => exact h.running h.classifierTake
  | oldDataReadDone answer => exact h.running (h.oldDataReadDone answer)
  | coalesceTimerExpiry => exact h.running (h.coalesceExpired.either h)
  | recordWriteDone answer => exact h.running (h.recordWriteDone answer)
  | commitWriteDone answer => exact h.running (h.commitWriteDone answer)
  | fetchDone answer => exact h.running (h.fetchDone answer)
  | slotDiscardTimerExpiry slot => exact h.running (((h.freeSlot slot).bump _).either h)
  | peekReadDone answer => exact h.running (h.peekReadDone answer)
  | sweepEnd => exact h.running ((h.withMaps _).sweepFollows.either h)
  | anchorReadDone answer => exact h.running (h.anchorReadDone answer)
  | anchorWriteDone answer => exact h.running (h.anchorWriteDone answer)
  | anchorReadBackDone answer => exact h.running (h.anchorReadBackDone answer)
  | clearWriteDone answer => exact h.running (h.clearWriteDone answer)
  | scanReadDone answer => exact h.running (h.scanReadDone answer)
  | walkReadDone answer => exact h.running (h.walkReadDone answer)
  | walkWriteDone answer => exact h.running (h.walkWriteDone answer)
  | requestFrame period => exact h.running (h.servicePeriod period)

theorem step_nextFresh (h : s.SlotsFresh) : NextFresh (step s) := by
  unfold step
  split
  · exact h.next
  · exact exec_nextFresh _ (h.withPending _)

end Sys2Proof.Machine

namespace Sys2Proof.Proofs

open Sys2Proof Sys2Proof.Machine

/-- Settles O57: every command keeps freshness operation by operation, RESET has every slot FREE, and a READY slot that
is fresh has no entry of its granule in the queue. -/
theorem readySlotsFresh : Obligations.ReadySlotsFresh := by
  unfold Obligations.ReadySlotsFresh
  exact ⟨fun _ t fresh => step_nextFresh fresh t, State.SlotsFresh.reset,
    fun _ fresh _ _ _ _ ready => fresh.granule_ne_of_ready ready⟩

end Sys2Proof.Proofs
end

section
/-! What every outcome of a command goes on with, the completion of every command but an outside grant, and the memory
in its canonical form. The blocks' own operations leave the memory and the waiting commands alone (`SameOuter`), so
only the answers to writes, RESET and the grant are looked into here. -/

namespace Sys2Proof.Machine

variable {s t : State} {P : State → Prop}

/-! ### Outcomes -/

/-- Whatever state an outcome goes on with has a property. -/
def NextMeets (P : State → Prop) (o : Host.Outcome State Fault Refusal) : Prop := ∀ t, o = .next t → P t

theorem nextMeets_next (met : P t) : NextMeets P (.next t) := by
  rintro _ ⟨⟩
  exact met

theorem nextMeets_fault (r : Fault) : NextMeets P (.fault r) := by
  intro t ends
  cases ends

theorem met_either {c : Prop} [Decidable c] (left : P s) (right : P t) : P (if c then s else t) := by
  split <;> assumption

/-- Assumption 8: a command of a part that is held in RESET leaves the state as it is. -/
theorem nextMeets_running (stays : P s) (ran : P t) : NextMeets P (s.running t) :=
  nextMeets_next (met_either stays ran)

/-- R163: a grant gives the port to an access inside the address space, or does nothing, or stops. -/
theorem nextMeets_memoryGrant (stays : P s) (granted : ∀ f, P ((s.grantedTo f.owner).withPort (some f))) :
    NextMeets P (execMemoryGrant s) := by
  unfold execMemoryGrant
  split
  · exact nextMeets_next stays
  · split
    · split
      · exact nextMeets_next (granted _)
      · exact nextMeets_fault _
    · exact nextMeets_next stays

/-! ### Completion -/

theorem running_completes (s t : State) : ∃ u, s.running t = .next u := ⟨_, rfl⟩

/-- R161: a grant completes, or its access lies outside the address space. -/
theorem execMemoryGrant_completes (s : State) : (∃ t, execMemoryGrant s = .next t) ∨
    (execMemoryGrant s = .fault .outsideAddressSpace ∧ s.inReset = false ∧ s.port = none ∧
      ∃ f, s.chosen = some f ∧ f.access.inside = false) := by
  unfold execMemoryGrant
  split
  · exact .inl ⟨_, rfl⟩
  · rename_i out
    split
    · rename_i f idle chosen
      split
      · exact .inl ⟨_, rfl⟩
      · rename_i outside
        exact .inr ⟨rfl, by simpa using out, idle, f, chosen, by simpa using outside⟩
    · exact .inl ⟨_, rfl⟩

theorem exec_completes (i : Instr) (s : State) (notGrant : i ≠ .memoryGrant) : ∃ t, exec i s = .next t := by
  cases i with
  | memoryGrant => exact absurd rfl notGrant
  | resetAsserted | resetReleased | pfailAsserted | pfailDeasserted => exact ⟨_, rfl⟩
  | _ => exact running_completes _ _

/-! ### The memory and the waiting commands -/

/-- From `s` to `t` the waiting commands stand and the memory stays canonical. -/
structure Tidy (s t : State) : Prop where
  pending : t.pending = s.pending
  memory : s.MemoryCanonical → t.MemoryCanonical

/-- A tidy change with the RESET line as it was. -/
structure Orderly (s t : State) : Prop extends Tidy s t where
  inReset : t.inReset = s.inReset

theorem SameOuter.orderly (h : SameOuter s t) : Orderly s t where
  pending := h.pending
  memory wf := by
    unfold State.MemoryCanonical
    rw [h.mem]
    exact wf
  inReset := h.inReset

namespace Orderly

theorem refl (s : State) : Orderly s s := ⟨⟨rfl, id⟩, rfl⟩

theorem trans {u : State} (h : Orderly s t) (k : Orderly t u) : Orderly s u :=
  ⟨⟨k.pending.trans h.pending, k.memory ∘ h.memory⟩, k.inReset.trans h.inReset⟩

/-- `trans` with a later part that stays within the blocks. -/
theorem outer {u : State} (h : Orderly s t) (k : SameOuter t u) : Orderly s u := h.trans k.orderly

theorem answered (s : State) (isError : Bool) : Orderly s (s.answered isError) :=
  met_either ⟨⟨rfl, id⟩, rfl⟩ ⟨⟨rfl, id⟩, rfl⟩

theorem answeredWrite (s : State) (a : Access) (ans : WriteAnswer) :
    Orderly s ((s.withMem (answeredMem s.mem a ans)).answered ans.isError) :=
  trans (t := s.withMem (answeredMem s.mem a ans)) ⟨⟨rfl, Mem.answeredMem_wf s.mem a ans⟩, rfl⟩ (answered _ _)

end Orderly

/-! ### Host requests -/

open SameOuter

theorem hostRetry_orderly (s : State) (k : Counter) : Orderly s (s.hostRetry k) := ⟨⟨rfl, id⟩, rfl⟩

theorem hostError_orderly (s : State) : Orderly s s.hostError := ⟨⟨rfl, id⟩, rfl⟩

theorem slotRead_orderly (s : State) (k : SlotKey) : Orderly s (s.slotRead k) := by
  unfold State.slotRead State.readMatched State.readAllocated
  split <;> split <;> exact ⟨⟨rfl, id⟩, rfl⟩

theorem decideRead_orderly (s : State) (k : SlotKey) : Orderly s (s.decideRead k) :=
  met_either (hostRetry_orderly _ _) (slotRead_orderly s k)

theorem decideWrite_orderly (s : State) (e : Entry) : Orderly s (s.decideWrite e) :=
  met_either (hostError_orderly s) (met_either (hostRetry_orderly _ _) (met_either (hostRetry_orderly _ _)
    (met_either (hostRetry_orderly _ _) ⟨⟨rfl, id⟩, rfl⟩)))

theorem decideHost_orderly (decided : Orderly s t) (addr : BitVec 28) (len : Nat) :
    Orderly s (s.decideHost addr len t) :=
  met_either (hostError_orderly s) (met_either (hostRetry_orderly _ _) (met_either (hostError_orderly s) decided))

/-! ### The write lane -/

theorem takeEntry_outer (s : State) (i : Nat) (e : Entry) : SameOuter s (s.takeEntry i e) := by
  have discarded : SameOuter s (s.takeDiscard i e) :=
    ((depart_outer s i).trans (bump_outer _ _)).trans (report_outer _ _)
  have elided : SameOuter s (s.takeElide i) := (depart_outer s i).trans (bump_outer _ _)
  have readied : SameOuter s (s.takeReady i e) := withEntries_outer _ _
  unfold State.takeEntry
  split
  case h_1 | h_2 | h_3 => exact discarded
  case h_4 => exact met_either elided readied
  case h_5 region touch elide _ =>
    have recorded : SameOuter s (s.takeRecord i e region touch elide) :=
      met_either (fullReport_outer s) (met_either ⟨rfl, rfl, rfl, rfl, rfl⟩ (rfl' s))
    exact met_either elided (met_either readied recorded)

theorem classifierTake_outer (s : State) : SameOuter s s.classifierTake := by
  unfold State.classifierTake
  split
  · split
    · exact rfl' s
    · split
      · exact rfl' s
      · exact (takeEntry_outer s _ _).trans (quietTest_outer _)
  · exact rfl' s

theorem oldDataAnswered_outer (s : State) (c : Classification) (old : Option (List Word)) :
    SameOuter s (s.oldDataAnswered c old) := by
  unfold State.oldDataAnswered
  split
  · split
    · exact withClassifier_outer s _
    · exact (withClassifier_outer s _).trans (report_outer _ _)
  · split
    · exact met_either (((depart_outer s _).trans (bump_outer _ _)).trans (withClassifier_outer _ _))
        ⟨rfl, rfl, rfl, rfl, rfl⟩
    · exact (withClassifier_outer s _).trans (report_outer _ _)

theorem oldDataReadDone_orderly (s : State) (answer : ReadAnswer) : Orderly s (s.oldDataReadDone answer) := by
  unfold State.oldDataReadDone
  split
  · exact (Orderly.answered s _).outer
      (((oldDataAnswered_outer _ _ _).trans (readItemDone_outer _ _)).trans (settle_outer _))
  · exact .refl s

theorem recordOkay_outer (s : State) (b : Bool) (rest : List JournalRecord) : SameOuter s (s.recordOkay b rest) :=
  have counted := (withWriter_outer s (s.writer.recordDurable b rest)).trans (warnTest_outer _)
  met_either (counted.trans (flushItemDone_outer _ true)) counted

theorem recordError_outer (s : State) (b : Bool) (r : JournalRecord) : SameOuter s (s.recordError b r) :=
  ((withWriter_outer s _).trans (report_outer _ _)).trans (flushItemDone_outer _ false)

theorem recordWriteDone_orderly (s : State) (answer : WriteAnswer) : Orderly s (s.recordWriteDone answer) := by
  unfold State.recordWriteDone
  split
  · split
    · exact ((Orderly.answeredWrite s _ answer).outer
        (met_either (recordError_outer _ _ _) (recordOkay_outer _ _ _))).outer (settle_outer _)
    · exact .refl s
  · exact .refl s

theorem commitWriteDone_orderly (s : State) (answer : WriteAnswer) : Orderly s (s.commitWriteDone answer) := by
  unfold State.commitWriteDone
  split
  · rename_i a e _ _ _
    have departed := (Orderly.answeredWrite s a answer).outer (depart_outer _ 0)
    exact met_either ((departed.outer (met_either (report_outer _ (dataWriteReport e)) (bump_outer _ _))).outer
      (settle_outer _)) (.refl s)
  · exact .refl s

/-! ### Sweeps and the answers to the epoch controller -/

theorem sweepFollows_outer (s : State) : SameOuter s s.sweepFollows := by
  unfold State.sweepFollows
  split
  · exact met_either (withPhase_outer s _ _) (rfl' s)
  · exact sweepWaitTest_outer s
  · exact rfl' s

theorem sweepEnded_orderly (s : State) :
    Orderly s (if s.maps.sweeping.isSome then (s.withMaps s.maps.sweepEnded).sweepFollows else s) :=
  met_either ((withMaps_outer s _).trans (sweepFollows_outer _)).orderly (.refl s)

theorem copyRead_outer (s : State) (copy : Copy) (copyA found : Option Anchor) :
    SameOuter s (s.copyRead copy copyA found) := by
  cases copy with
  | a => exact withWork_outer s _
  | b => exact selectAnchor_outer s _

theorem anchorReadAnswered_outer (s : State) (copy : Copy) (first : Option (List Word)) (copyA : Option Anchor)
    (words : Option (List Word)) : SameOuter s (s.anchorReadAnswered copy first copyA words) := by
  unfold State.anchorReadAnswered
  split
  · exact copyRead_outer s _ _ _
  · exact withWork_outer s _
  · exact copyRead_outer s _ _ _

theorem anchorReadDone_orderly (s : State) (answer : ReadAnswer) : Orderly s (s.anchorReadDone answer) := by
  unfold State.anchorReadDone
  split
  · exact (Orderly.answered s _).outer (anchorReadAnswered_outer _ _ _ _ _)
  · exact .refl s

theorem anchorWriteAnswered_outer (s : State) (second : Bool) (a : Anchor) (isError : Bool) :
    SameOuter s (s.anchorWriteAnswered second a isError) := by
  unfold State.anchorWriteAnswered
  split
  · exact withWork_outer s _
  · exact anchorAcknowledged_outer s a
  · exact anchorWriteFailed_outer s a
  · exact withWork_outer s _

theorem anchorWriteDone_orderly (s : State) (answer : WriteAnswer) : Orderly s (s.anchorWriteDone answer) := by
  unfold State.anchorWriteDone
  split
  · exact ((Orderly.answeredWrite s _ answer).outer (anchorWriteAnswered_outer _ _ _ _)).outer (quietTest_outer _)
  · exact .refl s

theorem readBackAnswered_outer (s : State) (first : Option (List Word)) (a : Anchor) (words : Option (List Word)) :
    SameOuter s (s.readBackAnswered first a words) := by
  unfold State.readBackAnswered
  split
  · exact withWork_outer s _
  · exact withWork_outer s _
  · exact met_either (anchorAcknowledged_outer s a) (anchorWriteFailed_outer s a)

theorem anchorReadBackDone_orderly (s : State) (answer : ReadAnswer) : Orderly s (s.anchorReadBackDone answer) := by
  unfold State.anchorReadBackDone
  split
  · exact ((Orderly.answered s _).outer (readBackAnswered_outer _ _ _ _)).outer (quietTest_outer _)
  · exact .refl s

theorem clearAnswered_outer (s : State) (acc : Access) (k : Nat) (isError : Bool) :
    SameOuter s (s.clearAnswered acc k isError) :=
  met_either ((report_outer s _).trans (cycleFailed_outer _))
    (met_either (withWork_outer s _) (enterAnchor1_outer s))

theorem clearWriteDone_orderly (s : State) (answer : WriteAnswer) : Orderly s (s.clearWriteDone answer) := by
  unfold State.clearWriteDone
  split
  · exact ((Orderly.answeredWrite s _ answer).outer (clearAnswered_outer _ _ _ _)).outer (quietTest_outer _)
  · exact .refl s

theorem scanAnswered_outer (s : State) (i : Nat) (words : Option (List Word)) :
    SameOuter s (s.scanAnswered i words) := by
  cases words with
  | none => exact scanFailed_outer s i
  | some ws => exact met_either (met_either (withWork_outer s _) (scanCompleted_outer s _)) (scanCompleted_outer s i)

theorem scanReadDone_orderly (s : State) (answer : ReadAnswer) : Orderly s (s.scanReadDone answer) := by
  unfold State.scanReadDone
  split
  · exact ((Orderly.answered s _).outer (scanAnswered_outer _ _ _)).outer (quietTest_outer _)
  · exact .refl s

theorem walkReadAnswered_outer (s : State) (i : Nat) (words : Option (List Word)) :
    SameOuter s (s.walkReadAnswered i words) := by
  cases words with
  | none => exact walkFailed_outer s _
  | some ws => exact met_either (withWork_outer s _) (walkFailed_outer s _)

theorem walkReadDone_orderly (s : State) (answer : ReadAnswer) : Orderly s (s.walkReadDone answer) := by
  unfold State.walkReadDone
  split
  · exact ((Orderly.answered s _).outer (walkReadAnswered_outer _ _ _)).outer (quietTest_outer _)
  · exact .refl s

theorem walkRestored_outer (s : State) (i : Nat) : SameOuter s (s.walkRestored i) :=
  have counted := withWalkRemaining_outer s (s.ctl.walkRemaining - 1)
  met_either (counted.trans (enterSweepWait_outer _)) (counted.trans (withWork_outer _ _))

theorem walkWriteDone_orderly (s : State) (answer : WriteAnswer) : Orderly s (s.walkWriteDone answer) := by
  unfold State.walkWriteDone
  split
  · exact ((Orderly.answeredWrite s _ answer).outer
      (met_either (walkFailed_outer _ _) (walkRestored_outer _ _))).outer (quietTest_outer _)
  · exact .refl s

/-! ### The memory port and the read lane -/

theorem grantedTo_orderly (s : State) (f : InFlight) : Orderly s ((s.grantedTo f.owner).withPort (some f)) := by
  cases f with
  | mk owner access => cases owner <;> exact ⟨⟨rfl, id⟩, rfl⟩

theorem fetchAnswered_outer (s : State) (i : Fin 4) (words : Option (List Word)) :
    SameOuter s (s.fetchAnswered i words) := by
  unfold State.fetchAnswered
  split
  · exact met_either ((withReads_outer s _).trans (report_outer _ _)) (withReads_outer s _)
  · exact rfl' s

theorem fetchDone_orderly (s : State) (answer : ReadAnswer) : Orderly s (s.fetchDone answer) := by
  unfold State.fetchDone
  split
  · exact (Orderly.answered s _).outer (fetchAnswered_outer _ _ _)
  · exact .refl s

/-! ### The service port -/

theorem setTuningRule_outer (s : State) (threshold : Byte) (coalesce discard : BitVec 16) (warning : Word)
    (mask : Byte) : SameOuter s (s.setTuningRule threshold coalesce discard warning mask).state := by
  unfold State.setTuningRule
  split
  · have set : SameOuter s (s.tuned threshold coalesce discard warning mask) := ⟨rfl, rfl, rfl, rfl, rfl⟩
    exact (set.trans (met_either (rfl' _) (sealTest_outer _))).trans (met_either (rfl' _) (warnTest_outer _))
  · exact rfl' s

theorem stageRegionRule_outer (s : State) (index : Byte) (e : StoredEntry) :
    SameOuter s (s.stageRegionRule index e).state := by
  unfold State.stageRegionRule
  split
  · exact rfl' s
  · split
    · exact rfl' s
    · split <;> exact ⟨rfl, rfl, rfl, rfl, rfl⟩

theorem getRegionRule_state (s : State) (copy index : Byte) : (s.getRegionRule copy index).state = s := by
  unfold State.getRegionRule
  split
  · rfl
  · split <;> rfl

theorem admitted_outer (s : State) (kind : OpKind) (args : Option Geometry) : SameOuter s (s.admitted kind args) :=
  ⟨rfl, rfl, rfl, rfl, rfl⟩

theorem frozenIn_outer (s : State) (p : Phase) : SameOuter s (s.frozenIn p) := ⟨rfl, rfl, rfl, rfl, rfl⟩

theorem checkpointRule_outer (s : State) : SameOuter s s.checkpointRule.state := by
  unfold State.checkpointRule
  split
  · exact rfl' s
  · split
    · exact ((admitted_outer s _ _).trans (frozenIn_outer _ _)).trans (freezeTest_outer _)
    · exact rfl' s

theorem adoptRule_outer (s : State) : SameOuter s s.adoptRule.state := by
  unfold State.adoptRule
  split
  · exact rfl' s
  · split
    · exact (admitted_outer s _ _).trans (enterSweepWait_outer _)
    · exact rfl' s

theorem formatRule_outer (s : State) (base size : Word) : SameOuter s (s.formatRule base size).state := by
  unfold State.formatRule
  split
  · exact rfl' s
  · dsimp only
    split
    · split
      · exact ((admitted_outer s _ _).trans (frozenIn_outer _ _)).trans (freezeTest_outer _)
      · exact rfl' s
    · exact rfl' s

theorem rollbackRule_outer (s : State) : SameOuter s s.rollbackRule.state := by
  unfold State.rollbackRule
  split
  · exact rfl' s
  · exact (((admitted_outer s _ _).trans (frozenIn_outer _ _)).trans (freeAllSlots_outer _)).trans
      (quiesceTest_outer _)

theorem resumeFlushes_outer (s : State) : SameOuter s s.resumeFlushes := by
  unfold State.resumeFlushes
  split <;> exact ⟨rfl, rfl, rfl, rfl, rfl⟩

theorem resumeReads_outer (s : State) : SameOuter s s.resumeReads := by
  unfold State.resumeReads
  split <;> exact ⟨rfl, rfl, rfl, rfl, rfl⟩

theorem resumeRule_outer (s : State) : SameOuter s s.resumeRule.state := by
  unfold State.resumeRule
  split
  · exact rfl' s
  · exact ((((admitted_outer s _ _).trans (withPhase_outer _ _ _)).trans (resumeFlushes_outer _)).trans
      (resumeReads_outer _)).trans (resumeTest_outer _)

theorem peekRecordRule_outer (s : State) (slot : Word) : SameOuter s (s.peekRecordRule slot).state := by
  unfold State.peekRecordRule
  split
  · exact rfl' s
  · split <;> exact ⟨rfl, rfl, rfl, rfl, rfl⟩

theorem ruleOf_outer (s : State) (c : ServiceCommand) : SameOuter s (s.ruleOf c).state := by
  cases c with
  | getStatus | getFault | clearFault | getCounters | clearCounters | clearAttention =>
    exact ⟨rfl, rfl, rfl, rfl, rfl⟩
  | setTuning => exact setTuningRule_outer _ _ _ _ _ _
  | stageRegion => exact stageRegionRule_outer _ _ _
  | getRegion copy index => exact (getRegionRule_state s copy index).symm ▸ rfl' s
  | format => exact formatRule_outer _ _ _
  | checkpoint => exact checkpointRule_outer s
  | adopt => exact adoptRule_outer s
  | rollback => exact rollbackRule_outer s
  | resume => exact resumeRule_outer s
  | peekRecord => exact peekRecordRule_outer _ _

theorem execute_outer (s : State) (c : ServiceCommand) : SameOuter s (s.execute c).state := by
  unfold State.execute
  split
  · exact rfl' s
  · exact ruleOf_outer s c

theorem answer_outer (r : Reply) (tag : Byte) : SameOuter r.state (r.answer tag) := ⟨rfl, rfl, rfl, rfl, rfl⟩

theorem collect_outer (s : State) (bytes : List Byte) (clocks : Nat) : SameOuter s (s.collect bytes clocks) :=
  ⟨rfl, rfl, rfl, rfl, rfl⟩

theorem serviceRequest_outer (s : State) (tag : Byte) (c : ServiceCommand) : SameOuter s (s.serviceRequest tag c) :=
  (collect_outer s _ _).trans (met_either (bump_outer _ _) ((execute_outer _ c).trans (answer_outer _ tag)))

theorem decideFrame_outer (s : State) (v : FrameVerdict) : SameOuter s (s.decideFrame v) := by
  cases v with
  | malformed | unknown | badLength => exact ⟨rfl, rfl, rfl, rfl, rfl⟩
  | command tag c => exact (execute_outer s c).trans (answer_outer _ tag)

theorem servicePeriod_outer (s : State) (period : List Byte) : SameOuter s (s.servicePeriod period) := by
  cases period with
  | nil => exact ⟨rfl, rfl, rfl, rfl, rfl⟩
  | cons type bytes =>
    exact met_either ((collect_outer s _ _).trans (met_either (bump_outer _ _) (decideFrame_outer _ _)))
      (met_either ⟨rfl, rfl, rfl, rfl, rfl⟩ ⟨rfl, rfl, rfl, rfl, rfl⟩)

theorem peekReadDone_orderly (s : State) (answer : ReadAnswer) : Orderly s (s.peekReadDone answer) := by
  unfold State.peekReadDone
  split
  · exact (Orderly.answered s _).outer ⟨rfl, rfl, rfl, rfl, rfl⟩
  · exact .refl s

/-! ### The commands -/

/-- R167: what an abandoned write leaves is canonical. -/
theorem abandonedMem_wf (s : State) (left : List Byte) (wf : s.MemoryCanonical) :
    Mem.wf (s.abandonedMem left) = true := by
  unfold State.abandonedMem
  split
  · exact wf
  · exact Mem.leftBehind_wf _ _ _ wf

theorem exec_tidy (i : Instr) (s : State) : NextMeets (Tidy s) (exec i s) := by
  have stays := (Orderly.refl s).toTidy
  have running {t : State} (kept : Orderly s t) : NextMeets (Tidy s) (s.running t) :=
    nextMeets_running stays kept.toTidy
  cases i with
  | hostRead master addr len => exact running (decideHost_orderly (decideRead_orderly s _) addr len)
  | hostWrite master addr len data => exact running (decideHost_orderly (decideWrite_orderly s _) addr len)
  | resetAsserted left => exact nextMeets_next ⟨rfl, abandonedMem_wf s left⟩
  | resetReleased =>
    have quieted := (quietTest_outer ({ s with inReset := false }.withPhase .mapSweep .rest)).orderly.toTidy
    exact nextMeets_next (met_either ⟨quieted.pending, quieted.memory⟩ stays)
  | pfailAsserted =>
    have held : Orderly s { s with faults := { s.faults with hold := true } } := ⟨⟨rfl, id⟩, rfl⟩
    exact nextMeets_next (met_either stays ((held.outer (sealTest_outer _)).outer (quietTest_outer _)).toTidy)
  | pfailDeasserted => exact nextMeets_next ⟨rfl, id⟩
  | getStatus | getFault | clearFault | getCounters | clearCounters | setTuning | stageRegion | getRegion | format
  | checkpoint | adopt | rollback | resume | peekRecord | clearAttention =>
    exact running (serviceRequest_outer s _ _).orderly
  | responseFetch clocked => exact running ⟨⟨rfl, id⟩, rfl⟩
  | memoryGrant => exact nextMeets_memoryGrant stays fun f => (grantedTo_orderly s f).toTidy
  | classifierTake => exact running (classifierTake_outer s).orderly
  | oldDataReadDone answer => exact running (oldDataReadDone_orderly s answer)
  | coalesceTimerExpiry => exact running (met_either (coalesceExpired_outer s).orderly (.refl s))
  | recordWriteDone answer => exact running (recordWriteDone_orderly s answer)
  | commitWriteDone answer => exact running (commitWriteDone_orderly s answer)
  | fetchDone answer => exact running (fetchDone_orderly s answer)
  | slotDiscardTimerExpiry slot => exact running (met_either ⟨⟨rfl, id⟩, rfl⟩ (.refl s))
  | peekReadDone answer => exact running (peekReadDone_orderly s answer)
  | sweepEnd => exact running (sweepEnded_orderly s)
  | anchorReadDone answer => exact running (anchorReadDone_orderly s answer)
  | anchorWriteDone answer => exact running (anchorWriteDone_orderly s answer)
  | anchorReadBackDone answer => exact running (anchorReadBackDone_orderly s answer)
  | clearWriteDone answer => exact running (clearWriteDone_orderly s answer)
  | scanReadDone answer => exact running (scanReadDone_orderly s answer)
  | walkReadDone answer => exact running (walkReadDone_orderly s answer)
  | walkWriteDone answer => exact running (walkWriteDone_orderly s answer)
  | requestFrame period => exact running (servicePeriod_outer s period).orderly

/-- A step is the idling of the part or the command at the front of the queue. -/
theorem step_nextMeets (idle : P s) (ran : ∀ c rest, NextMeets P (exec c (s.withPending rest))) :
    NextMeets P (step s) := by
  unfold step
  split
  · exact nextMeets_next idle
  · exact ran _ _

end Sys2Proof.Machine

namespace Sys2Proof.Proofs

open Sys2Proof Sys2Proof.Machine

/-- Settles O55: no operation of the blocks touches the memory, and each answer, abandoned write and RESET keeps its
form. -/
theorem memoryKept : Obligations.MemoryKept := by
  unfold Obligations.MemoryKept
  intro s t canonical
  exact step_nextMeets (P := State.MemoryCanonical) canonical
    (fun c rest u ran => (exec_tidy c (s.withPending rest) u ran).memory canonical) t

/-- Settles O1: the definition of a step, read on a queue with a front and on an empty one. -/
theorem stepTakesFront : Obligations.StepTakesFront := by
  unfold Obligations.StepTakesFront step
  exact ⟨fun c rest s front => by rw [front]; rfl, fun s empty => by rw [empty]⟩

/-- Settles O2: every command but a grant completes, and a grant stops only outside the address space. -/
theorem onlyGrantStops : Obligations.OnlyGrantStops := by
  unfold Obligations.OnlyGrantStops
  intro c s
  have completed (done : ∃ t, exec c s = .next t) : ∃ t, exec c s = .next t ∧ t.pending = s.pending := by
    obtain ⟨t, ran⟩ := done
    exact ⟨t, ran, (exec_tidy c s t ran).pending⟩
  obtain rfl | notGrant := eq_or_ne c .memoryGrant
  · obtain done | ⟨stops, out, idle, f, chosen, outside⟩ := execMemoryGrant_completes s
    · exact .inl (completed done)
    · exact .inr ⟨rfl, stops, out, idle, f, chosen, by simpa [Access.inside] using outside⟩
  · exact .inl (completed (exec_completes c s notGrant))

/-- Settles O3: every command but those of the two lines runs under the RESET line's guard. -/
theorem heldInReset : Obligations.HeldInReset := by
  unfold Obligations.HeldInReset
  intro c s held notReset notReleased notPfail notClear
  have guarded (t : State) : s.running t = .next s := running_inReset s t held
  cases c with
  | resetAsserted left => exact absurd rfl (notReset left)
  | resetReleased => exact absurd rfl notReleased
  | pfailAsserted => exact absurd rfl notPfail
  | pfailDeasserted => exact absurd rfl notClear
  | memoryGrant => exact if_pos held
  | _ => exact guarded _

end Sys2Proof.Proofs
end

section
/-! R34 and R177. The queue grows with an acceptance alone, and what PFQUIET asks for is lost with the hold alone: an
acceptance, an admission and a record's placing each need a state that is not quiet. Every other operation is calm: the
queue does not grow, the conditions stay, and PFQUIET rises only where they hold. -/

namespace Sys2Proof.Machine

/-- From `s` to `t` the queue does not grow, the conditions of PFQUIET stay, and it rises only where they hold. -/
structure Calms (s t : State) : Prop where
  queue : t.pwq.entries.length ≤ s.pwq.entries.length
  quiet : s.quiet = true → t.quiet = true
  rise : t.faults.pfquiet = true → s.faults.pfquiet = true ∨ t.quiet = true

variable {s t u : State}

/-! ### What is lost in a state that is not quiet -/

theorem quiet_false_of_hold (h : s.faults.hold = false) : s.quiet = false := by simp [State.quiet, h]

theorem quiet_false_of_entries (h : s.pwq.entries ≠ []) : s.quiet = false := by simp [State.quiet, h]

theorem quiet_false_of_inReset (h : s.inReset = true) : s.quiet = false := by simp [State.quiet, h]

theorem quiet_false_of_op (h : s.ctl.op.isSome = true) : s.quiet = false := by
  simp [State.quiet, Option.isNone_eq_false_iff.2 h]

/-- R73: a bank found in another state than EMPTY keeps the banks from being empty. -/
theorem banksEmpty_false {w : JournalWriter} {st : BankState} {b : Bool} (found : w.bankIn st = some b)
    (ne : st ≠ .empty) : w.banksEmpty = false := by
  have state : (w.bank b).state ≠ .empty := fun empty => ne ((bankIn_state found).symm.trans empty)
  rw [← Bool.not_eq_true, JournalWriter.banksEmpty, Bool.and_eq_true, beq_iff_eq, beq_iff_eq]
  rintro ⟨empty0, empty1⟩
  cases b with
  | false => exact state empty0
  | true => exact state empty1

theorem quiet_false_of_bankIn {st : BankState} {b : Bool} (found : s.writer.bankIn st = some b) (ne : st ≠ .empty) :
    s.quiet = false := by
  simp [State.quiet, banksEmpty_false found ne]

namespace Calms

theorem refl (s : State) : Calms s s := ⟨le_rfl, id, .inl⟩

theorem trans (h : Calms s t) (k : Calms t u) : Calms s u :=
  ⟨k.queue.trans h.queue, k.quiet ∘ h.quiet,
    fun up => (k.rise up).elim (fun mid => (h.rise mid).imp_right k.quiet) .inr⟩

/-- An update of nothing that the queue's length or PFQUIET depends on. -/
theorem same (untouched : (t.pwq.entries.length, t.quiet, t.faults.pfquiet) =
    (s.pwq.entries.length, s.quiet, s.faults.pfquiet)) : Calms s t := by
  rw [Prod.mk.injEq, Prod.mk.injEq] at untouched
  obtain ⟨queue, quiet, pfquiet⟩ := untouched
  exact ⟨queue.le, quiet.trans, fun up => .inl (pfquiet.symm.trans up)⟩

/-- An update in a state that is not quiet. -/
theorem busy (stirring : s.quiet = false) (queue : t.pwq.entries.length ≤ s.pwq.entries.length)
    (pfquiet : t.faults.pfquiet = s.faults.pfquiet) : Calms s t :=
  ⟨queue, fun still => absurd still (by simp [stirring]), fun up => .inl (pfquiet.symm.trans up)⟩

theorem withEntries {es : List Entry} (shorter : es.length ≤ s.pwq.entries.length) : Calms s (s.withEntries es) := by
  refine ⟨shorter, fun still => ?_, .inl⟩
  rw [quiet_iff] at still ⊢
  obtain ⟨out, hold, empty, banks, op⟩ := still
  rw [empty] at shorter
  exact ⟨out, hold, List.length_eq_zero_iff.1 (Nat.le_zero.1 shorter), banks, op⟩

theorem withWriter {w : JournalWriter} (banks : s.writer.banksEmpty = true → w.banksEmpty = true) :
    Calms s (s.withWriter w) := by
  refine ⟨le_rfl, fun still => ?_, .inl⟩
  rw [quiet_iff] at still ⊢
  obtain ⟨out, hold, empty, emptied, op⟩ := still
  exact ⟨out, hold, empty, banks emptied, op⟩

end Calms

open Calms

/-! ### The shared operations of the blocks -/

theorem answered_calms (s : State) (isError : Bool) : Calms s (s.answered isError) := met_either (same rfl) (same rfl)

theorem endOp_calms (s : State) (o : OpOutcome) : Calms s (s.endOp o) := by
  cases op : s.ctl.op with
  | none => rw [endOp_none s o op]; exact refl s
  | some kind =>
    rw [endOp_some s o kind op]
    exact busy (quiet_false_of_op (by rw [op]; rfl)) le_rfl rfl

theorem recordFault_calms (s : State) (r : FaultReport) : Calms s (s.recordFault r) := by
  unfold State.recordFault
  split <;> exact same rfl

theorem haltOn_calms (s : State) (c : HaltCause) : Calms s (s.haltOn c) :=
  have halted : Calms s (((s.withJournal .halted).withHaltedCause (some c)).setCause .halted) := same rfl
  met_either (refl s) (met_either (halted.trans (endOp_calms _ _)) halted)

theorem report_calms (s : State) (r : FaultReport) : Calms s (s.report r) := by
  have recorded := recordFault_calms s r
  unfold State.report
  split
  · exact recorded.trans (haltOn_calms _ _)
  · exact recorded.trans (haltOn_calms _ _)
  · exact recorded

theorem quietTest_calms (s : State) : Calms s s.quietTest := by
  obtain ⟨still, -⟩ | ⟨rises, quiet, -⟩ := quietTest_cases s
  · rw [still]; exact refl s
  · rw [rises]; exact ⟨le_rfl, id, fun _ => .inr quiet⟩

theorem noteDeparture_calms (s : State) (g : Nat) : Calms s (s.noteDeparture g) := same rfl

theorem depart_calms (s : State) (i : Nat) : Calms s (s.depart i) := by
  unfold State.depart
  split
  · exact refl s
  · exact (withEntries (List.length_eraseIdx_le _ _)).trans (noteDeparture_calms _ _)

theorem headReady_length (d : Nat) (es : List Entry) : (headReady d es).length = es.length := by
  obtain same | ⟨head, rest, _, rfl, -, -, -, changed⟩ := headReady_cases d es
  · rw [same]
  · rw [changed]; rfl

theorem examineHead_calms (s : State) : Calms s s.examineHead := withEntries (headReady_length _ _).le

theorem sealTest_calms (s : State) : Calms s s.sealTest := by
  obtain stays | ⟨b, filling, -, -, -, sealed⟩ := sealTest_cases s
  · rw [stays]; exact refl s
  · rw [sealed]; exact busy (quiet_false_of_bankIn filling nofun) le_rfl rfl

theorem coalesceExpired_calms (s : State) : Calms s s.coalesceExpired := Calms.trans (same (by rfl)) (sealTest_calms _)

theorem coalesceTest_calms (s : State) : Calms s s.coalesceTest :=
  met_either (met_either (coalesceExpired_calms s) (same rfl)) (refl s)

theorem writePath_calms (s : State) : Calms s s.writePath :=
  ((examineHead_calms s).trans (sealTest_calms _)).trans (coalesceTest_calms _)

theorem warnTest_calms (s : State) : Calms s s.warnTest := met_either (same rfl) (refl s)

theorem fullReport_calms (s : State) : Calms s s.fullReport := met_either (same rfl) (refl s)

/-! ### The epoch controller's phases -/

theorem withGeometry_calms (s : State) (g : Geometry) : Calms s (s.withGeometry g) := met_either (refl s) (same rfl)

theorem activate_calms (s : State) : Calms s s.activate := by
  unfold State.activate
  have table : Calms s (if activatesTable s.ctl.op s.ctl.phase then s.activateStaged else s) :=
    met_either (same rfl) (refl s)
  dsimp only
  split
  · exact table.trans (withGeometry_calms _ _)
  · exact table

theorem enterAnchorPhase_calms (s : State) : Calms s s.enterAnchorPhase := met_either (same rfl) (same rfl)

theorem sweepWaitTest_calms (s : State) : Calms s s.sweepWaitTest := met_either (enterAnchorPhase_calms s) (refl s)

theorem enterSweepWait_calms (s : State) : Calms s s.enterSweepWait :=
  (same rfl : Calms s (s.withPhase .sweepWait .rest)).trans (sweepWaitTest_calms _)

theorem drainTest_calms (s : State) : Calms s s.drainTest :=
  met_either ((same rfl : Calms s (s.withDrain false)).trans (enterSweepWait_calms _)) (refl s)

theorem enterDrain_calms (s : State) : Calms s s.enterDrain :=
  have entered : Calms s ((s.withPhase .drain .rest).withDrain true) := same rfl
  (entered.trans (sealTest_calms _)).trans (drainTest_calms _)

theorem freezeTest_calms (s : State) : Calms s s.freezeTest := met_either (enterDrain_calms s) (refl s)

theorem enterWalk_calms (s : State) : Calms s s.enterWalk :=
  met_either ((same rfl : Calms s (s.withWalkRemaining 0)).trans (enterSweepWait_calms _)) (same rfl)

theorem resolveTest_calms (s : State) : Calms s s.resolveTest :=
  have trimmed : Calms s s.trimTest := met_either (refl s) (withWriter fun _ => rfl)
  trimmed.trans (met_either (met_either (same rfl) (enterWalk_calms _)) (refl _))

theorem chargeFate_calms (s : State) (e : Entry) (f : Fate) : Calms s (s.chargeFate e f) := by
  cases f with
  | discard | elide | keep => exact same rfl
  | tableDiscard =>
    exact Calms.trans (same (by rfl))
      (report_calms ((s.noteDeparture e.granule).bump .writesDiscarded) (s.tableDiscardReport e))

theorem resolveQueue_calms (s : State) : Calms s s.resolveQueue :=
  List.foldlRecOn _ _ (withEntries (List.length_filterMap_le _ _)) fun _ calm e _ => calm.trans (chargeFate_calms _ e _)

theorem enterResolve_calms (s : State) : Calms s s.enterResolve :=
  have resolved := (same rfl : Calms s (s.withPhase .resolve .rest)).trans (resolveQueue_calms _)
  have left : Calms s (s.withPhase .resolve .rest).resolveQueue.resolveClassifier :=
    resolved.trans (met_either (refl _) (same rfl))
  (left.trans (same (by rfl))).trans (resolveTest_calms _)

theorem quiesceTest_calms (s : State) : Calms s s.quiesceTest := met_either (refl s) (enterResolve_calms s)

theorem resumeTest_calms (s : State) : Calms s s.resumeTest :=
  have ready : Calms s ((s.withJournal .ready).withHaltedCause none) := same rfl
  met_either (refl s) (met_either (endOp_calms s _) (met_either (endOp_calms s _) (ready.trans (endOp_calms _ _))))

theorem advance_calms (s : State) : Calms s s.advance := by
  unfold State.advance
  split
  · exact freezeTest_calms s
  · exact drainTest_calms s
  · exact quiesceTest_calms s
  · exact resolveTest_calms s
  · exact resumeTest_calms s
  · exact refl s

theorem settle_calms (s : State) : Calms s s.settle :=
  ((writePath_calms s).trans (advance_calms _)).trans (quietTest_calms _)

/-! ### Switch point, start-up's end and failures -/

/-- R111: the part at a switch point, with the operation still to end. -/
def State.reopened (s : State) : State :=
  ((((s.openEpoch.withEntries (s.pwq.entries.map (Entry.atSwitch s.ctl.epochInEffect))).withCountUnknown
    false).withWalkRemaining 0).withJournal .ready).withHaltedCause none

theorem switchPoint_eq (s : State) : s.switchPoint = (s.reopened.endOp .success).bump .epochsOpened := rfl

theorem switchPoint_calms (s : State) : Calms s s.switchPoint := by
  have requeued : Calms s (s.openEpoch.withEntries (s.pwq.entries.map (Entry.atSwitch s.ctl.epochInEffect))) :=
    (same rfl : Calms s s.openEpoch).trans (withEntries (List.length_map _).le)
  have reopened : Calms s s.reopened := requeued.trans (same rfl)
  rw [switchPoint_eq]
  exact (reopened.trans (endOp_calms _ .success)).trans (same rfl)

theorem endStart_calms (s : State) (j : JournalState) : Calms s (s.endStart j) := by
  unfold State.endStart
  exact met_either (same rfl) (same rfl)

theorem restartDone_calms (s : State) : Calms s s.restartDone :=
  (same rfl : Calms s (s.openEpoch.bump .epochsOpened)).trans (endStart_calms _ _)

theorem clearResumed_calms (s : State) : Calms s s.clearResumed :=
  (same rfl : Calms s ((s.withWriter (s.writer.withCounts 0).rearmed).bump .epochsOpened)).trans (endStart_calms _ _)

theorem failIntoRecovery_calms (s : State) : Calms s s.failIntoRecovery :=
  have retired : Calms s s.retireTest := met_either (same rfl) (refl s)
  have failed : Calms s ((s.retireTest.withJournal .recoveryFault).withHaltedCause none) := retired.trans (same rfl)
  failed.trans (endOp_calms _ _)

theorem discardLost_calms (s : State) : Calms s s.discardLost :=
  List.foldlRecOn _ _ (withEntries (List.length_filter_le _ _)) fun _ calm _ _ => calm.trans (same rfl)

theorem cycleFailed_calms (s : State) : Calms s s.cycleFailed :=
  met_either (endStart_calms s _) ((discardLost_calms s).trans (failIntoRecovery_calms _))

theorem anchorFailed_calms (s : State) : Calms s s.anchorFailed := by
  unfold State.anchorFailed
  refine met_either (endStart_calms s _) (met_either (cycleFailed_calms s) ?_)
  split
  · exact (same rfl : Calms s (s.withJournal .recoveryFault)).trans (endOp_calms _ _)
  · exact failIntoRecovery_calms s
  · exact endOp_calms s _

theorem anchorWriteFailed_calms (s : State) (a : Anchor) : Calms s (s.anchorWriteFailed a) :=
  (report_calms s _).trans (anchorFailed_calms _)

theorem anchorAcknowledged_calms (s : State) (a : Anchor) : Calms s (s.anchorAcknowledged a) := by
  unfold State.anchorAcknowledged
  have active := (same rfl : Calms s (s.acknowledge a)).trans (activate_calms _)
  dsimp only
  split
  · exact active.trans (switchPoint_calms _)
  · exact active.trans (same rfl)
  · exact active.trans
      (met_either (met_either (restartDone_calms _) (clearResumed_calms _)) (switchPoint_calms _))
  · exact active.trans (restartDone_calms _)
  · exact active.trans (same rfl)

theorem enterRestart_calms (s : State) : Calms s s.enterRestart := met_either (same rfl) (same rfl)

theorem scanCompleted_calms (s : State) (d : Nat) : Calms s (s.scanCompleted d) :=
  have counted : Calms s ((s.withWriter (s.writer.withCounts d)).withCountUnknown false) := same rfl
  counted.trans (met_either (met_either (enterRestart_calms _) (endStart_calms _ _)) (enterWalk_calms _))

theorem scanFailed_calms (s : State) (i : Nat) : Calms s (s.scanFailed i) := by
  unfold State.scanFailed
  exact ((report_calms s _).trans (same (by rfl))).trans (met_either (endStart_calms _ _) (failIntoRecovery_calms _))

theorem walkFailed_calms (s : State) (r : FaultReport) : Calms s (s.walkFailed r) :=
  ((report_calms s r).trans (same (by rfl))).trans (failIntoRecovery_calms _)

theorem selectAnchor_calms (s : State) (found : Option (Copy × Anchor)) : Calms s (s.selectAnchor found) := by
  unfold State.selectAnchor
  split
  · exact endStart_calms s _
  · rename_i copy a
    have placed := (same rfl : Calms s (s.loaded copy a)).trans (withGeometry_calms _ a.geometry)
    exact placed.trans (met_either (same rfl) (same rfl))

/-! ### Reads, and the write lane -/

theorem decideRead_calms (s : State) (k : SlotKey) : Calms s (s.decideRead k) := by
  refine met_either (same rfl) ?_
  unfold State.slotRead State.readMatched State.readAllocated
  split <;> split <;> exact same rfl

theorem takeEntry_calms (s : State) (i : Nat) (e : Entry) : Calms s (s.takeEntry i e) := by
  have set (e' : Entry) : Calms s (s.withEntries (s.pwq.entries.set i e')) := withEntries List.length_set.le
  have discarded : Calms s (s.takeDiscard i e) := ((depart_calms s i).trans (same (by rfl))).trans (report_calms _ _)
  have elided : Calms s (s.takeElide i) := (depart_calms s i).trans (same rfl)
  have readied : Calms s (s.takeReady i e) := set _
  unfold State.takeEntry
  split
  case h_1 | h_2 | h_3 => exact discarded
  case h_4 => exact met_either elided readied
  case h_5 region touch elide _ =>
    have recorded : Calms s (s.takeRecord i e region touch elide) :=
      met_either (fullReport_calms s) (met_either ((set _).trans (same rfl)) (refl s))
    exact met_either elided (met_either readied recorded)

theorem classifierTake_calms (s : State) : Calms s s.classifierTake := by
  unfold State.classifierTake
  split
  · split
    · exact refl s
    · split
      · exact refl s
      · exact (takeEntry_calms s _ _).trans (quietTest_calms _)
  · exact refl s

/-- R47: a record is built for an entry of the queue, and so in a state that is not quiet. -/
theorem buildRecord_calms (c : Classification) {i : Nat} {e : Entry} (at_i : s.pwq.entries[i]? = some e)
    (old : List Word) : Calms s (s.buildRecord c i e old) :=
  busy (quiet_false_of_entries fun none => by simp [none] at at_i) List.length_set.le rfl

theorem oldDataAnswered_calms (s : State) (c : Classification) (old : Option (List Word)) :
    Calms s (s.oldDataAnswered c old) := by
  unfold State.oldDataAnswered
  split
  · split
    · exact same rfl
    · exact (same rfl : Calms s (s.withClassifier .idle)).trans (report_calms _ _)
  · split
    · rename_i at_i
      exact met_either ((depart_calms s _).trans (same rfl)) (buildRecord_calms c at_i _)
    · exact (same rfl : Calms s (s.withClassifier (.held c))).trans (report_calms _ _)

theorem oldDataReadDone_calms (s : State) (answer : ReadAnswer) : Calms s (s.oldDataReadDone answer) := by
  unfold State.oldDataReadDone
  split
  · exact (((answered_calms s _).trans (oldDataAnswered_calms _ _ _)).trans (same (by rfl))).trans (settle_calms _)
  · exact refl s

theorem recordOkay_calms {b : Bool} (flushing : s.writer.bankIn .flushing = some b) (rest : List JournalRecord) :
    Calms s (s.recordOkay b rest) :=
  have durable : Calms s (s.withWriter (s.writer.recordDurable b rest)) :=
    busy (quiet_false_of_bankIn flushing nofun) le_rfl rfl
  have warned := durable.trans (warnTest_calms _)
  met_either (warned.trans (same rfl)) warned

theorem recordError_calms {b : Bool} (flushing : s.writer.bankIn .flushing = some b) (r : JournalRecord) :
    Calms s (s.recordError b r) :=
  have failed : Calms s (s.withWriter (s.writer.setBank b { s.writer.bank b with state := .flushFailed })) :=
    busy (quiet_false_of_bankIn flushing nofun) le_rfl rfl
  (failed.trans (report_calms _ _)).trans (same rfl)

theorem answeredWrite_calms (s : State) (m : Mem) (isError : Bool) : Calms s ((s.withMem m).answered isError) :=
  (same rfl : Calms s (s.withMem m)).trans (answered_calms _ _)

theorem answered_writer (s : State) (isError : Bool) : (s.answered isError).writer = s.writer := by
  cases isError <;> rfl

theorem recordWriteDone_calms (s : State) (answer : WriteAnswer) : Calms s (s.recordWriteDone answer) := by
  unfold State.recordWriteDone
  split
  · rename_i flushing
    split
    · have kept (m : Mem) (err : Bool) : ((s.withMem m).answered err).writer.bankIn .flushing = _ :=
        (congrArg (·.bankIn .flushing) (answered_writer (s.withMem m) err)).trans flushing
      exact ((answeredWrite_calms s _ _).trans
        (met_either (recordError_calms (kept _ _) _) (recordOkay_calms (kept _ _) _))).trans (settle_calms _)
    · exact refl s
  · exact refl s

theorem commitWriteDone_calms (s : State) (answer : WriteAnswer) : Calms s (s.commitWriteDone answer) := by
  unfold State.commitWriteDone
  split
  · exact met_either ((((answeredWrite_calms s _ _).trans (depart_calms _ 0)).trans
      (met_either (report_calms _ _) (same (by rfl)))).trans (settle_calms _)) (refl s)
  · exact refl s

/-! ### Sweeps and the answers to the epoch controller -/

theorem sweepFollows_calms (s : State) : Calms s s.sweepFollows := by
  unfold State.sweepFollows
  split
  · exact met_either (same rfl) (refl s)
  · exact sweepWaitTest_calms s
  · exact refl s

theorem copyRead_calms (s : State) (copy : Copy) (copyA found : Option Anchor) :
    Calms s (s.copyRead copy copyA found) := by
  cases copy with
  | a => exact same rfl
  | b => exact selectAnchor_calms s _

theorem anchorReadAnswered_calms (s : State) (copy : Copy) (first : Option (List Word)) (copyA : Option Anchor)
    (words : Option (List Word)) : Calms s (s.anchorReadAnswered copy first copyA words) := by
  unfold State.anchorReadAnswered
  split
  · exact copyRead_calms s _ _ _
  · exact same rfl
  · exact copyRead_calms s _ _ _

theorem anchorReadDone_calms (s : State) (answer : ReadAnswer) : Calms s (s.anchorReadDone answer) := by
  unfold State.anchorReadDone
  split
  · exact (answered_calms s _).trans (anchorReadAnswered_calms _ _ _ _ _)
  · exact refl s

theorem anchorWriteAnswered_calms (s : State) (second : Bool) (a : Anchor) (isError : Bool) :
    Calms s (s.anchorWriteAnswered second a isError) := by
  unfold State.anchorWriteAnswered
  split
  · exact same rfl
  · exact anchorAcknowledged_calms s a
  · exact anchorWriteFailed_calms s a
  · exact same rfl

theorem anchorWriteDone_calms (s : State) (answer : WriteAnswer) : Calms s (s.anchorWriteDone answer) := by
  unfold State.anchorWriteDone
  split
  · exact ((answeredWrite_calms s _ _).trans (anchorWriteAnswered_calms _ _ _ _)).trans (quietTest_calms _)
  · exact refl s

theorem readBackAnswered_calms (s : State) (first : Option (List Word)) (a : Anchor) (words : Option (List Word)) :
    Calms s (s.readBackAnswered first a words) := by
  unfold State.readBackAnswered
  split
  · exact same rfl
  · exact same rfl
  · exact met_either (anchorAcknowledged_calms s a) (anchorWriteFailed_calms s a)

theorem anchorReadBackDone_calms (s : State) (answer : ReadAnswer) : Calms s (s.anchorReadBackDone answer) := by
  unfold State.anchorReadBackDone
  split
  · exact ((answered_calms s _).trans (readBackAnswered_calms _ _ _ _)).trans (quietTest_calms _)
  · exact refl s

theorem clearAnswered_calms (s : State) (acc : Access) (k : Nat) (isError : Bool) :
    Calms s (s.clearAnswered acc k isError) :=
  met_either ((report_calms s _).trans (cycleFailed_calms _)) (met_either (same rfl) (same rfl))

theorem clearWriteDone_calms (s : State) (answer : WriteAnswer) : Calms s (s.clearWriteDone answer) := by
  unfold State.clearWriteDone
  split
  · exact ((answeredWrite_calms s _ _).trans (clearAnswered_calms _ _ _ _)).trans (quietTest_calms _)
  · exact refl s

theorem scanAnswered_calms (s : State) (i : Nat) (words : Option (List Word)) : Calms s (s.scanAnswered i words) := by
  cases words with
  | none => exact scanFailed_calms s i
  | some ws => exact met_either (met_either (same rfl) (scanCompleted_calms s _)) (scanCompleted_calms s i)

theorem scanReadDone_calms (s : State) (answer : ReadAnswer) : Calms s (s.scanReadDone answer) := by
  unfold State.scanReadDone
  split
  · exact ((answered_calms s _).trans (scanAnswered_calms _ _ _)).trans (quietTest_calms _)
  · exact refl s

theorem walkReadAnswered_calms (s : State) (i : Nat) (words : Option (List Word)) :
    Calms s (s.walkReadAnswered i words) := by
  cases words with
  | none => exact walkFailed_calms s _
  | some ws => exact met_either (same rfl) (walkFailed_calms s _)

theorem walkReadDone_calms (s : State) (answer : ReadAnswer) : Calms s (s.walkReadDone answer) := by
  unfold State.walkReadDone
  split
  · exact ((answered_calms s _).trans (walkReadAnswered_calms _ _ _)).trans (quietTest_calms _)
  · exact refl s

theorem walkRestored_calms (s : State) (i : Nat) : Calms s (s.walkRestored i) :=
  have counted : Calms s (s.withWalkRemaining (s.ctl.walkRemaining - 1)) := same rfl
  counted.trans (met_either (enterSweepWait_calms _) (same rfl))

theorem walkWriteDone_calms (s : State) (answer : WriteAnswer) : Calms s (s.walkWriteDone answer) := by
  unfold State.walkWriteDone
  split
  · exact ((answeredWrite_calms s _ _).trans
      (met_either (walkFailed_calms _ _) (walkRestored_calms _ _))).trans (quietTest_calms _)
  · exact refl s

/-! ### The memory port and the read lane -/

theorem headCommitting_length (es : List Entry) : (headCommitting es).length = es.length := by
  cases es <;> rfl

theorem grantedTo_calms (s : State) (f : InFlight) : Calms s ((s.grantedTo f.owner).withPort (some f)) := by
  obtain ⟨owner, access⟩ := f
  cases owner with
  | commitStage => exact (withEntries (headCommitting_length _).le).trans (same rfl)
  | epochController | journalWriter | classifier | readSlot | servicePort => exact same rfl

theorem fetchAnswered_calms (s : State) (i : Fin 4) (words : Option (List Word)) :
    Calms s (s.fetchAnswered i words) := by
  unfold State.fetchAnswered
  split
  · exact met_either (Calms.trans (same (by rfl)) (report_calms _ _)) (same (by rfl))
  · exact refl s

theorem fetchDone_calms (s : State) (answer : ReadAnswer) : Calms s (s.fetchDone answer) := by
  unfold State.fetchDone
  split
  · exact (answered_calms s _).trans (fetchAnswered_calms _ _ _)
  · exact refl s

/-! ### The service port -/

/-- R105: checks 2 to 4 let an operation through. -/
theorem opRefusal_eq_none (s : State) (kind : OpKind) :
    s.opRefusal kind = none ↔ s.ctl.op = none ∧ s.faults.hold = false ∧ s.admits kind = true := by
  unfold State.opRefusal
  cases s.ctl.op <;> cases s.faults.hold <;> cases s.admits kind <;> simp

/-- R105, check 3: an operation is admitted without the hold, and so in a state that is not quiet. -/
theorem admitted_calms {kind : OpKind} (let_through : s.opRefusal kind = none) (args : Option Geometry) :
    Calms s (s.admitted kind args) :=
  busy (quiet_false_of_hold ((opRefusal_eq_none s kind).1 let_through).2.1) le_rfl rfl

/-- R49, R134: the first phase of an admitted operation that raises the freeze. -/
theorem frozenIn_admitted_calms {kind : OpKind} (let_through : s.opRefusal kind = none) (args : Option Geometry)
    (p : Phase) : Calms s ((s.admitted kind args).frozenIn p) :=
  (admitted_calms let_through args).trans (same rfl)

theorem setTuningRule_calms (s : State) (threshold : Byte) (coalesce discard : BitVec 16) (warning : Word)
    (mask : Byte) : Calms s (s.setTuningRule threshold coalesce discard warning mask).state := by
  unfold State.setTuningRule
  split
  · have set : Calms s (s.tuned threshold coalesce discard warning mask) := same rfl
    exact (set.trans (met_either (refl _) (sealTest_calms _))).trans (met_either (refl _) (warnTest_calms _))
  · exact refl s

theorem stageRegionRule_calms (s : State) (index : Byte) (e : StoredEntry) :
    Calms s (s.stageRegionRule index e).state := by
  unfold State.stageRegionRule
  split
  · exact refl s
  · split
    · exact refl s
    · split <;> exact same rfl

theorem checkpointRule_calms (s : State) : Calms s s.checkpointRule.state := by
  unfold State.checkpointRule
  split
  · exact refl s
  · rename_i let_through
    split
    · exact (frozenIn_admitted_calms let_through _ _).trans (freezeTest_calms _)
    · exact refl s

theorem adoptRule_calms (s : State) : Calms s s.adoptRule.state := by
  unfold State.adoptRule
  split
  · exact refl s
  · rename_i let_through
    split
    · exact (admitted_calms let_through _).trans (enterSweepWait_calms _)
    · exact refl s

theorem formatRule_calms (s : State) (base size : Word) : Calms s (s.formatRule base size).state := by
  unfold State.formatRule
  split
  · exact refl s
  · rename_i let_through
    dsimp only
    split
    · split
      · exact (frozenIn_admitted_calms let_through _ _).trans (freezeTest_calms _)
      · exact refl s
    · exact refl s

theorem rollbackRule_calms (s : State) : Calms s s.rollbackRule.state := by
  unfold State.rollbackRule
  split
  · exact refl s
  · rename_i let_through
    exact ((frozenIn_admitted_calms let_through none .quiesce).trans (same (by rfl))).trans (quiesceTest_calms _)

theorem resumeFlushes_calms (s : State) : Calms s s.resumeFlushes := by
  unfold State.resumeFlushes
  split
  · exact refl s
  · rename_i flushFailed
    exact busy (quiet_false_of_bankIn flushFailed nofun) le_rfl rfl

theorem resumeReads_calms (s : State) : Calms s s.resumeReads := by
  unfold State.resumeReads
  split <;> exact same rfl

theorem resumeRule_calms (s : State) : Calms s s.resumeRule.state := by
  unfold State.resumeRule
  split
  · exact refl s
  · rename_i let_through
    exact ((((admitted_calms let_through none).trans (same (by rfl))).trans (resumeFlushes_calms _)).trans
      (resumeReads_calms _)).trans (resumeTest_calms _)

theorem peekRecordRule_calms (s : State) (slot : Word) : Calms s (s.peekRecordRule slot).state := by
  unfold State.peekRecordRule
  split
  · exact refl s
  · split <;> exact same rfl

theorem ruleOf_calms (s : State) (c : ServiceCommand) : Calms s (s.ruleOf c).state := by
  cases c with
  | getStatus | getFault | clearFault | getCounters | clearCounters | clearAttention => exact same rfl
  | setTuning => exact setTuningRule_calms _ _ _ _ _ _
  | stageRegion => exact stageRegionRule_calms _ _ _
  | getRegion copy index => exact (getRegionRule_state s copy index).symm ▸ refl s
  | format => exact formatRule_calms _ _ _
  | checkpoint => exact checkpointRule_calms s
  | adopt => exact adoptRule_calms s
  | rollback => exact rollbackRule_calms s
  | resume => exact resumeRule_calms s
  | peekRecord => exact peekRecordRule_calms _ _

theorem execute_calms (s : State) (c : ServiceCommand) : Calms s (s.execute c).state := by
  unfold State.execute
  split
  · exact refl s
  · exact ruleOf_calms s c

theorem answer_calms (r : Reply) (tag : Byte) : Calms r.state (r.answer tag) := same rfl

theorem serviceRequest_calms (s : State) (tag : Byte) (c : ServiceCommand) : Calms s (s.serviceRequest tag c) :=
  have heard : Calms s (s.collect (encodeRequest tag c) (1 + (encodeRequest tag c).length)) := same rfl
  heard.trans (met_either (same rfl) ((execute_calms _ c).trans (answer_calms _ tag)))

theorem decideFrame_calms (s : State) (v : FrameVerdict) : Calms s (s.decideFrame v) := by
  cases v with
  | malformed | unknown | badLength => exact same rfl
  | command tag c => exact (execute_calms s c).trans (answer_calms _ tag)

theorem servicePeriod_calms (s : State) (period : List Byte) : Calms s (s.servicePeriod period) := by
  cases period with
  | nil => exact same rfl
  | cons type bytes =>
    have heard : Calms s (s.collect bytes (1 + bytes.length)) := same rfl
    exact met_either (heard.trans (met_either (same rfl) (decideFrame_calms _ _))) (met_either (same rfl) (same rfl))

theorem peekReadDone_calms (s : State) (answer : ReadAnswer) : Calms s (s.peekReadDone answer) := by
  unfold State.peekReadDone
  split
  · exact (answered_calms s _).trans (same rfl)
  · exact refl s

/-! ### The commands -/

/-- From `s` to `t` the queue's bound and what PFQUIET asserts are kept. -/
structure KeepsQuiet (s t : State) : Prop where
  bounded : s.QueueBounded → t.QueueBounded
  quietHolds : s.QuietHolds → t.QuietHolds

theorem Calms.keeps (calm : Calms s t) : KeepsQuiet s t :=
  ⟨calm.queue.trans, fun holds up => (calm.rise up).elim (calm.quiet ∘ holds) id⟩

/-- R25: a write is accepted without the hold, behind fewer than 16 entries. -/
theorem acceptWrite_keeps (noHold : s.faults.hold = false) (room : ¬Config.queueDepth ≤ s.pwq.entries.length)
    (e : Entry) : KeepsQuiet s (s.acceptWrite e) where
  bounded _ := by
    change (s.pwq.entries ++ [e]).length ≤ 16
    rw [List.length_append]
    exact Nat.not_le.1 room
  quietHolds holds up := absurd (holds up) (by simp [quiet_false_of_hold noHold])

theorem decideWrite_keeps (s : State) (e : Entry) : KeepsQuiet s (s.decideWrite e) := by
  have turnedAway (r : HostResponse) (k : Counter) : KeepsQuiet s ((s.answerHost r).bump k) := Calms.keeps (same rfl)
  unfold State.decideWrite
  split
  · exact turnedAway _ _
  · split
    · exact turnedAway _ _
    · rename_i noHold
      split
      · exact turnedAway _ _
      · split
        · exact turnedAway _ _
        · rename_i room
          exact acceptWrite_keeps (by simpa using noHold) room e

theorem decideHost_keeps (decided : KeepsQuiet s t) (addr : BitVec 28) (len : Nat) :
    KeepsQuiet s (s.decideHost addr len t) :=
  have turnedAway (r : HostResponse) (k : Counter) : KeepsQuiet s ((s.answerHost r).bump k) := Calms.keeps (same rfl)
  met_either (turnedAway _ _) (met_either (turnedAway _ _) (met_either (turnedAway _ _) decided))

/-- R123, R177: the part leaves RESET, where PFQUIET is not asserted. -/
theorem resetReleased_calms (s : State) (held : s.inReset = true) :
    Calms s ({ s with inReset := false }.withPhase .mapSweep .rest).quietTest :=
  have released : Calms s ({ s with inReset := false }.withPhase .mapSweep .rest) :=
    busy (quiet_false_of_inReset held) le_rfl rfl
  released.trans (quietTest_calms _)

/-- R175: the hold is set where it was not. -/
theorem pfailAsserted_calms (s : State) (noHold : s.faults.hold = false) :
    Calms s ({ s with faults := { s.faults with hold := true } }.sealTest).quietTest :=
  have held : Calms s { s with faults := { s.faults with hold := true } } :=
    busy (quiet_false_of_hold noHold) le_rfl rfl
  (held.trans (sealTest_calms _)).trans (quietTest_calms _)

theorem exec_keepsQuiet (i : Instr) (s : State) : NextMeets (KeepsQuiet s) (exec i s) := by
  have stays := (Calms.refl s).keeps
  have running {t : State} (calm : Calms s t) : NextMeets (KeepsQuiet s) (s.running t) :=
    nextMeets_running stays calm.keeps
  cases i with
  | hostRead master addr len =>
    exact nextMeets_running stays (decideHost_keeps (decideRead_calms s _).keeps addr len)
  | hostWrite master addr len data => exact nextMeets_running stays (decideHost_keeps (decideWrite_keeps s _) addr len)
  | resetAsserted left => exact nextMeets_next ⟨fun _ => Nat.zero_le _, fun _ up => nomatch up⟩
  | resetReleased =>
    refine nextMeets_next ?_
    split
    · rename_i held; exact (resetReleased_calms s held).keeps
    · exact stays
  | pfailAsserted =>
    refine nextMeets_next ?_
    split
    · exact stays
    · rename_i noHold; exact (pfailAsserted_calms s (by simpa using noHold)).keeps
  | pfailDeasserted => exact nextMeets_next ⟨id, fun _ up => nomatch up⟩
  | getStatus | getFault | clearFault | getCounters | clearCounters | setTuning | stageRegion | getRegion | format
  | checkpoint | adopt | rollback | resume | peekRecord | clearAttention => exact running (serviceRequest_calms s _ _)
  | responseFetch clocked => exact running (same rfl)
  | memoryGrant => exact nextMeets_memoryGrant stays fun f => (grantedTo_calms s f).keeps
  | classifierTake => exact running (classifierTake_calms s)
  | oldDataReadDone answer => exact running (oldDataReadDone_calms s answer)
  | coalesceTimerExpiry => exact running (met_either (coalesceExpired_calms s) (.refl s))
  | recordWriteDone answer => exact running (recordWriteDone_calms s answer)
  | commitWriteDone answer => exact running (commitWriteDone_calms s answer)
  | fetchDone answer => exact running (fetchDone_calms s answer)
  | slotDiscardTimerExpiry slot => exact running (met_either (same rfl) (.refl s))
  | peekReadDone answer => exact running (peekReadDone_calms s answer)
  | sweepEnd =>
    have swept : Calms s (s.withMaps s.maps.sweepEnded) := same rfl
    exact running (met_either (swept.trans (sweepFollows_calms _)) (.refl s))
  | anchorReadDone answer => exact running (anchorReadDone_calms s answer)
  | anchorWriteDone answer => exact running (anchorWriteDone_calms s answer)
  | anchorReadBackDone answer => exact running (anchorReadBackDone_calms s answer)
  | clearWriteDone answer => exact running (clearWriteDone_calms s answer)
  | scanReadDone answer => exact running (scanReadDone_calms s answer)
  | walkReadDone answer => exact running (walkReadDone_calms s answer)
  | walkWriteDone answer => exact running (walkWriteDone_calms s answer)
  | requestFrame period => exact running (servicePeriod_calms s period)

theorem step_keepsQuiet (s : State) : NextMeets (KeepsQuiet s) (step s) := by
  refine step_nextMeets (Calms.refl s).keeps fun c rest t ran => ?_
  obtain ⟨bounded, quietHolds⟩ := exec_keepsQuiet c (s.withPending rest) t ran
  exact ⟨bounded, quietHolds⟩

end Sys2Proof.Machine

namespace Sys2Proof.Proofs

open Sys2Proof Sys2Proof.Machine

/-- Settles O58: a quiet part takes no write, admits no operation and places no record until the hold falls, which
takes PFQUIET with it. -/
theorem quietStaysTrue : Obligations.QuietStaysTrue := by
  unfold Obligations.QuietStaysTrue
  exact fun s t holds ran => (step_keepsQuiet s t ran).quietHolds holds

/-- Settles O56: the queue grows with an acceptance alone, which is behind fewer than 16 entries. -/
theorem queueStaysBounded : Obligations.QueueStaysBounded := by
  unfold Obligations.QueueStaysBounded
  exact fun s t bounded ran => (step_keepsQuiet s t ran).bounded bounded

end Sys2Proof.Proofs
end

section
/-! R102 to R106, R123 and R132. Out of RESET the epoch controller is in one of three conditions: a long operation is in
progress, start-up runs, or it rests. A phase or an access stands in the first two alone, so the tests and answers that
move a phase on find an operation or start-up to move; what ends either leaves the controller at rest. -/

namespace Sys2Proof.Machine

namespace EpochController

/-- A long operation is in progress, and start-up is over. -/
structure Operating (c : EpochController) : Prop where
  op : c.op ≠ none
  journal : c.journal ≠ .starting

/-- What is lowered while no long operation is in progress (R106). -/
structure Lowered (c : EpochController) : Prop where
  op : c.op = none
  freeze : c.freeze = false
  drain : c.drain = false
  formatArgs : c.formatArgs = none

/-- R123: start-up runs, in a phase and with an access of its own. -/
structure StartingUp (c : EpochController) : Prop extends Lowered c where
  journal : c.journal = .starting
  work : c.work.ofStart = true
  phase : c.phase.ofStart = true

/-- No long operation is in progress, and start-up is over. -/
structure AtRest (c : EpochController) : Prop extends Lowered c where
  journal : c.journal ≠ .starting
  work : c.work = .rest
  phase : c.phase = .noPhase

/-- The conditions in which a phase or an access can stand. -/
def Working (c : EpochController) : Prop := c.Operating ∨ c.StartingUp

/-- The conditions of the controller out of RESET. -/
def Sound (c : EpochController) : Prop := c.Working ∨ c.AtRest

/-- What the conditions read. -/
def standing (c : EpochController) :
    Option OpKind × JournalState × Bool × Bool × Option Geometry × Phase × EpochWork :=
  (c.op, c.journal, c.freeze, c.drain, c.formatArgs, c.phase, c.work)

theorem Working.of_standing {c d : EpochController} (h : c.Working) (same : d.standing = c.standing) : d.Working := by
  simp only [standing, Prod.mk.injEq] at same
  obtain ⟨op, journal, freeze, drain, args, phase, work⟩ := same
  obtain operating | up := h
  · exact .inl ⟨op ▸ operating.op, journal ▸ operating.journal⟩
  · exact .inr ⟨⟨op.trans up.op, freeze.trans up.freeze, drain.trans up.drain, args.trans up.formatArgs⟩,
      journal.trans up.journal, work ▸ up.work, phase ▸ up.phase⟩

theorem AtRest.of_standing {c d : EpochController} (h : c.AtRest) (same : d.standing = c.standing) : d.AtRest := by
  simp only [standing, Prod.mk.injEq] at same
  obtain ⟨op, journal, freeze, drain, args, phase, work⟩ := same
  exact ⟨⟨op.trans h.op, freeze.trans h.freeze, drain.trans h.drain, args.trans h.formatArgs⟩,
    journal ▸ h.journal, work.trans h.work, phase.trans h.phase⟩

theorem Sound.of_standing {c d : EpochController} (h : c.Sound) (same : d.standing = c.standing) : d.Sound :=
  h.imp (·.of_standing same) (·.of_standing same)

end EpochController

variable {s t : State}

/-! ### The conditions and the invariant -/

theorem EpochController.Sound.controllerSound (sound : s.ctl.Sound) (out : s.inReset = false) : s.ControllerSound := by
  refine ⟨fun idle => ?_, fun starting => ?_, fun held => absurd held (by simp [out])⟩
  · obtain (operating | up) | rest := sound
    · exact absurd idle operating.op
    · exact ⟨up.freeze, up.drain, up.formatArgs, fun started => absurd up.journal started⟩
    · exact ⟨rest.freeze, rest.drain, rest.formatArgs, fun _ => ⟨rest.phase, rest.work⟩⟩
  · obtain (operating | up) | rest := sound
    · exact absurd starting operating.journal
    · exact ⟨up.op, up.work, fun _ => up.phase, fun held => absurd held (by simp [out])⟩
    · exact absurd starting rest.journal

theorem State.ControllerSound.sound (h : s.ControllerSound) (out : s.inReset = false) : s.ctl.Sound := by
  obtain ⟨idle, alone, -⟩ := h
  by_cases starting : s.ctl.journal = .starting
  · obtain ⟨op, work, phase, -⟩ := alone starting
    obtain ⟨freeze, drain, args, -⟩ := idle op
    exact .inl (.inr ⟨⟨op, freeze, drain, args⟩, starting, work, phase out⟩)
  · by_cases op : s.ctl.op = none
    · obtain ⟨freeze, drain, args, started⟩ := idle op
      obtain ⟨phase, work⟩ := started starting
      exact .inr ⟨⟨op, freeze, drain, args⟩, starting, work, phase⟩
    · exact .inl (.inl ⟨op, starting⟩)

namespace EpochController

variable {c : EpochController}

theorem Operating.sound (h : c.Operating) : c.Sound := .inl (.inl h)

theorem StartingUp.sound (h : c.StartingUp) : c.Sound := .inl (.inr h)

theorem AtRest.sound (h : c.AtRest) : c.Sound := .inr h

theorem Working.sound (h : c.Working) : c.Sound := .inl h

theorem Working.operating (h : c.Working) (started : c.journal ≠ .starting) : c.Operating :=
  h.resolve_right fun up => started up.journal

theorem Working.startingUp (h : c.Working) (starting : c.journal = .starting) : c.StartingUp :=
  h.resolve_left fun operating => operating.journal starting

/-- An access of the controller stands in an operation or in start-up. -/
theorem Sound.working_of_work (h : c.Sound) {w : EpochWork} (stands : c.work = w) (some_access : w ≠ .rest) :
    c.Working :=
  h.resolve_right fun rest => some_access (stands.symm.trans rest.work)

/-- A phase stands in an operation or in start-up. -/
theorem Sound.working_of_phase (h : c.Sound) {p : Phase} (stands : c.phase = p) (some_phase : p ≠ .noPhase) :
    c.Working :=
  h.resolve_right fun rest => some_phase (stands.symm.trans rest.phase)

/-- A phase that start-up does not have stands in an operation. -/
theorem Working.operating_of_phase (h : c.Working) {p : Phase} (stands : c.phase = p) (foreign : p.ofStart = false) :
    c.Operating :=
  h.resolve_right fun up => by simpa [stands, foreign] using up.phase

/-- The walk stands in an operation. -/
theorem Working.operating_of_work (h : c.Working) {w : EpochWork} (stands : c.work = w)
    (foreign : w.ofStart = false) : c.Operating :=
  h.resolve_right fun up => by simpa [stands, foreign] using up.work

/-! ### What ends an operation, and start-up -/

theorem Operating.endOp (h : s.ctl.Operating) (o : OpOutcome) : (s.endOp o).ctl.AtRest := by
  obtain ⟨kind, op⟩ := Option.ne_none_iff_exists'.1 h.op
  rw [endOp_some s o kind op]
  exact ⟨⟨rfl, rfl, rfl, rfl⟩, h.journal, rfl, rfl⟩

theorem endStart_ctl (s : State) (j : JournalState) :
    (s.endStart j).ctl = { s.ctl with journal := j, phase := .noPhase, work := .rest, startCycle := none } := by
  unfold State.endStart
  dsimp only
  split <;> rfl

/-- R132: with the journal state set, start-up rests; an operation, where one stands, goes on. -/
theorem Sound.endStart (h : s.ctl.Sound) {j : JournalState} (started : j ≠ .starting) : (s.endStart j).ctl.Sound := by
  rw [endStart_ctl]
  have rests (low : s.ctl.Lowered) : AtRest
      { s.ctl with journal := j, phase := .noPhase, work := .rest, startCycle := none } :=
    ⟨⟨low.op, low.freeze, low.drain, low.formatArgs⟩, started, rfl, rfl⟩
  obtain (operating | up) | rest := h
  · exact Operating.sound ⟨operating.op, started⟩
  · exact (rests up.toLowered).sound
  · exact (rests rest.toLowered).sound

/-! ### Faults and halts -/

theorem Sound.haltOn (h : s.ctl.Sound) (cause : HaltCause) : (s.haltOn cause).ctl.Sound := by
  by_cases stays : s.ctl.journal ≠ .ready ∨ s.ctl.op = some .rollback
  · rw [haltOn_stays s cause stays]; exact h
  · rw [not_or, not_ne_iff] at stays
    obtain ⟨ready, notRollback⟩ := stays
    have halted : (((s.withJournal .halted).withHaltedCause (some cause)).setCause .halted).ctl.Sound := by
      obtain (operating | up) | rest := h
      · exact Operating.sound ⟨operating.op, nofun⟩
      · exact absurd up.journal (by simp [ready])
      · exact AtRest.sound ⟨⟨rest.op, rest.freeze, rest.drain, rest.formatArgs⟩, nofun, rest.work, rest.phase⟩
    cases fails : s.ctl.failsOnHalt with
    | false => rw [haltOn_halts s cause ready notRollback fails]; exact halted
    | true =>
      rw [haltOn_fails s cause ready notRollback fails]
      have op : s.ctl.op ≠ none := fun none => by simp [EpochController.failsOnHalt, none] at fails
      exact (Operating.endOp (s := ((s.withJournal .halted).withHaltedCause (some cause)).setCause .halted)
        ⟨op, nofun⟩ .failed).sound

theorem Sound.report (h : s.ctl.Sound) (r : FaultReport) : (s.report r).ctl.Sound := by
  have recorded : (s.recordFault r).ctl.Sound := h
  unfold State.report
  split
  · exact recorded.haltOn _
  · exact recorded.haltOn _
  · exact recorded

/-- R112, R171: a fault of a kind that does not halt leaves the controller alone. -/
theorem report_ctl (s : State) (r : FaultReport) (notRead : r.kind ≠ .oldRead) (notFlush : r.kind ≠ .flush) :
    (s.report r).ctl = s.ctl := by
  rw [report_recorded s r notRead notFlush]
  rfl

/-! ### The tests of the write path and of the phases -/

theorem quietTest_ctl (s : State) : s.quietTest.ctl = s.ctl := by
  unfold State.quietTest
  split <;> rfl

theorem sealTest_ctl (s : State) : s.sealTest.ctl = s.ctl := by rw [sealTest_shape]

theorem writePath_ctl (s : State) : s.writePath.ctl = s.ctl := by rw [writePath_shape]

theorem answered_ctl (s : State) (isError : Bool) : (s.answered isError).ctl = s.ctl := by cases isError <;> rfl

theorem depart_ctl (s : State) (i : Nat) : (s.depart i).ctl = s.ctl := by
  unfold State.depart
  split <;> rfl

theorem warnTest_ctl (s : State) : s.warnTest.ctl = s.ctl := met_either (P := fun t => t.ctl = s.ctl) rfl rfl

section Operating

variable (h : s.ctl.Operating)
include h

theorem Operating.withPhase (p : Phase) (w : EpochWork) : (s.withPhase p w).ctl.Operating := ⟨h.op, h.journal⟩

theorem Operating.withDrain (b : Bool) : (s.withDrain b).ctl.Operating := ⟨h.op, h.journal⟩

theorem Operating.withWalkRemaining (n : Nat) : (s.withWalkRemaining n).ctl.Operating := ⟨h.op, h.journal⟩

theorem Operating.withCountUnknown (b : Bool) : (s.withCountUnknown b).ctl.Operating := ⟨h.op, h.journal⟩

theorem Operating.withJournal {j : JournalState} (started : j ≠ .starting) : (s.withJournal j).ctl.Operating :=
  ⟨h.op, started⟩

theorem Operating.enterAnchorPhase : s.enterAnchorPhase.ctl.Operating :=
  met_either (P := fun t => t.ctl.Operating) (h.withPhase _ _) (h.withPhase _ _)

theorem Operating.sweepWaitTest : s.sweepWaitTest.ctl.Operating :=
  met_either (P := fun t => t.ctl.Operating) h.enterAnchorPhase h

theorem Operating.enterSweepWait : s.enterSweepWait.ctl.Operating := (h.withPhase .sweepWait .rest).sweepWaitTest

theorem Operating.sealTest : s.sealTest.ctl.Operating := by rwa [sealTest_ctl]

theorem Operating.drainTest : s.drainTest.ctl.Operating :=
  met_either (P := fun t => t.ctl.Operating) (h.withDrain false).enterSweepWait h

theorem Operating.enterDrain : s.enterDrain.ctl.Operating := ((h.withPhase _ _).withDrain true).sealTest.drainTest

theorem Operating.freezeTest : s.freezeTest.ctl.Operating :=
  met_either (P := fun t => t.ctl.Operating) h.enterDrain h

theorem Operating.enterScan : s.enterScan.ctl.Operating := (h.withPhase _ _).withWalkRemaining 0

theorem Operating.enterWalk : s.enterWalk.ctl.Operating :=
  met_either (P := fun t => t.ctl.Operating) (h.withWalkRemaining 0).enterSweepWait
    ((h.withWalkRemaining _).withPhase _ _)

theorem Operating.resolveTest : s.resolveTest.ctl.Operating :=
  have trimmed : s.trimTest.ctl.Operating := met_either (P := fun t => t.ctl.Operating) h h
  met_either (P := fun t => t.ctl.Operating)
    (met_either (P := fun t => t.ctl.Operating) trimmed.enterScan trimmed.enterWalk) trimmed

end Operating

theorem chargeFate_ctl (s : State) (e : Entry) (f : Fate) : (s.chargeFate e f).ctl = s.ctl := by
  cases f with
  | discard | elide | keep => rfl
  | tableDiscard => exact report_ctl _ (s.tableDiscardReport e) nofun nofun

theorem resolveQueue_ctl (s : State) : s.resolveQueue.ctl = s.ctl :=
  List.foldlRecOn (motive := fun t : State => t.ctl = s.ctl) _ (fun acc e => acc.chargeFate e (s.fateOf e)) rfl
    fun t same e _ => (chargeFate_ctl t e _).trans same

theorem Operating.enterResolve (h : s.ctl.Operating) : s.enterResolve.ctl.Operating := by
  have resolved : (s.withPhase .resolve .rest).resolveQueue.ctl.Operating := by
    rw [resolveQueue_ctl]
    exact h.withPhase _ _
  have left : (s.withPhase .resolve .rest).resolveQueue.resolveClassifier.ctl.Operating :=
    met_either (P := fun t => t.ctl.Operating) resolved resolved
  exact Operating.resolveTest left

theorem Operating.quiesceTest (h : s.ctl.Operating) : s.quiesceTest.ctl.Operating :=
  met_either (P := fun t => t.ctl.Operating) h h.enterResolve

theorem Operating.resumeTest (h : s.ctl.Operating) : s.resumeTest.ctl.Sound := by
  have ready : ((s.withJournal .ready).withHaltedCause none).ctl.Operating := h.withJournal nofun
  have ends (o : OpOutcome) := (h.endOp o).sound
  exact met_either (P := fun t => t.ctl.Sound) h.sound (met_either (P := fun t => t.ctl.Sound) (ends _)
    (met_either (P := fun t => t.ctl.Sound) (ends _) (ready.endOp _).sound))

/-- R104: the phases that end by a condition are an operation's. -/
theorem Sound.advance (h : s.ctl.Sound) : s.advance.ctl.Sound := by
  have operating {p : Phase} (stands : s.ctl.phase = p) (some_phase : p ≠ .noPhase) (foreign : p.ofStart = false) :=
    (h.working_of_phase stands some_phase).operating_of_phase stands foreign
  unfold State.advance
  split
  · rename_i p; exact (operating p nofun rfl).freezeTest.sound
  · rename_i p; exact (operating p nofun rfl).drainTest.sound
  · rename_i p; exact (operating p nofun rfl).quiesceTest.sound
  · rename_i p; exact (operating p nofun rfl).resolveTest.sound
  · rename_i p; exact (operating p nofun rfl).resumeTest
  · exact h

theorem Sound.settle (h : s.ctl.Sound) : s.settle.ctl.Sound := by
  have path : s.writePath.ctl.Sound := by rwa [writePath_ctl]
  unfold State.settle
  rw [quietTest_ctl]
  exact path.advance

theorem Sound.quietTest (h : s.ctl.Sound) : s.quietTest.ctl.Sound := by rwa [quietTest_ctl]

/-! ### Switch point, start-up's end and failures -/

theorem Operating.switchPoint (h : s.ctl.Operating) : s.switchPoint.ctl.AtRest :=
  have reopened : s.reopened.ctl.Operating := ⟨h.op, nofun⟩
  reopened.endOp .success

theorem Operating.failIntoRecovery (h : s.ctl.Operating) : s.failIntoRecovery.ctl.AtRest :=
  have retired : s.retireTest.ctl.Operating := met_either (P := fun t => t.ctl.Operating) h h
  have recovering : ((s.retireTest.withJournal .recoveryFault).withHaltedCause none).ctl.Operating :=
    retired.withJournal nofun
  recovering.endOp .failed

theorem discardLost_ctl (s : State) : s.discardLost.ctl = s.ctl :=
  List.foldlRecOn (motive := fun t : State => t.ctl = s.ctl) _ _ rfl fun _ same _ _ => same

theorem Working.cycleFailed (h : s.ctl.Working) : s.cycleFailed.ctl.Sound := by
  unfold State.cycleFailed
  split
  · exact h.sound.endStart nofun
  · rename_i started
    have lost : s.discardLost.ctl.Operating := by
      rw [discardLost_ctl]
      exact h.operating started
    exact lost.failIntoRecovery.sound

theorem Working.anchorFailed (h : s.ctl.Working) : s.anchorFailed.ctl.Sound := by
  unfold State.anchorFailed
  split
  · exact h.sound.endStart nofun
  · rename_i started
    have operating := h.operating started
    split
    · exact h.cycleFailed
    · split
      · exact ((operating.withJournal (j := .recoveryFault) nofun).endOp _).sound
      · exact operating.failIntoRecovery.sound
      · exact (operating.endOp _).sound

theorem Working.anchorWriteFailed (h : s.ctl.Working) (a : Anchor) : (s.anchorWriteFailed a).ctl.Sound := by
  have reported : (s.report (anchorWriteReport a)).ctl.Working := by
    rwa [report_ctl s (anchorWriteReport a) nofun nofun]
  exact reported.anchorFailed

/-! ### The acknowledgement of an anchor -/

/-- R12: an activation touches the geometry alone of the controller. -/
theorem activate_ctl (s : State) : s.activate.ctl = { s.ctl with geometry := s.activate.ctl.geometry } := by
  unfold State.activate State.withGeometry
  dsimp only
  repeat' split
  all_goals rfl

theorem Working.acknowledged (h : s.ctl.Working) (a : Anchor) : ((s.acknowledge a).activate).ctl.Working := by
  rw [activate_ctl]
  exact h.of_standing rfl

/-- A phase of both is entered with an access of both. -/
theorem Working.withPhase (h : s.ctl.Working) {p : Phase} {w : EpochWork} (ofStart : p.ofStart = true)
    (access : w.ofStart = true) : (s.withPhase p w).ctl.Working := by
  obtain operating | up := h
  · exact .inl (operating.withPhase p w)
  · exact .inr ⟨⟨up.op, up.freeze, up.drain, up.formatArgs⟩, up.journal, access, ofStart⟩

/-- The access changes, and the phase stays. -/
theorem Working.withWork (h : s.ctl.Working) {w : EpochWork} (access : w.ofStart = true) :
    (s.withWork w).ctl.Working := by
  obtain operating | up := h
  · exact .inl (operating.withPhase _ w)
  · exact .inr ⟨⟨up.op, up.freeze, up.drain, up.formatArgs⟩, up.journal, access, up.phase⟩

theorem Working.withCountUnknown (h : s.ctl.Working) (b : Bool) : (s.withCountUnknown b).ctl.Working :=
  h.of_standing rfl

theorem Working.withStartCycle (h : s.ctl.Working) (cycle : StartCycle) : (s.withStartCycle cycle).ctl.Working :=
  h.of_standing rfl

theorem Working.restartDone (h : s.ctl.Working) : s.restartDone.ctl.Sound :=
  have opened : (s.openEpoch.bump .epochsOpened).ctl.Sound := h.sound
  opened.endStart nofun

theorem Working.clearResumed (h : s.ctl.Working) : s.clearResumed.ctl.Sound :=
  have counted : ((s.withWriter (s.writer.withCounts 0).rearmed).bump .epochsOpened).ctl.Sound := h.sound
  counted.endStart nofun

theorem Working.beginClear (h : s.ctl.Working) : s.beginClear.ctl.Working :=
  have counted : (s.withWriter (s.writer.withCounts 0)).ctl.Working := h
  (counted.withCountUnknown false).withPhase rfl rfl

theorem Working.anchorAcknowledged (h : s.ctl.Working) (a : Anchor) : (s.anchorAcknowledged a).ctl.Sound := by
  have active := h.acknowledged a
  unfold State.anchorAcknowledged
  dsimp only
  split
  · rename_i p; exact (active.operating_of_phase p rfl).switchPoint.sound
  · exact active.beginClear.sound
  · split
    · exact met_either (P := fun t => t.ctl.Sound) active.restartDone active.clearResumed
    · rename_i started; exact (active.operating started).switchPoint.sound
  · exact active.restartDone
  · exact (active.withWork rfl).sound

/-! ### Start-up's scan and selection -/

theorem StartingUp.enterRestart (h : s.ctl.StartingUp) : s.enterRestart.ctl.Sound :=
  have working : s.ctl.Working := .inr h
  met_either (P := fun t => t.ctl.Sound) ((working.withStartCycle _).withPhase rfl rfl).sound
    (working.withPhase rfl rfl).sound

theorem Working.scanCompleted (h : s.ctl.Working) (d : Nat) : (s.scanCompleted d).ctl.Sound := by
  have counted : ((s.withWriter (s.writer.withCounts d)).withCountUnknown false).ctl.Working :=
    Working.withCountUnknown (s := s.withWriter _) h false
  unfold State.scanCompleted
  dsimp only
  split
  · rename_i starting
    exact met_either (P := fun t => t.ctl.Sound) (counted.startingUp starting).enterRestart
      (counted.sound.endStart nofun)
  · rename_i started
    exact (counted.operating started).enterWalk.sound

theorem Working.scanFailed (h : s.ctl.Working) (i : Nat) : (s.scanFailed i).ctl.Sound := by
  unfold State.scanFailed
  have same := report_ctl s ⟨.scanRead, .epochController, none, none, some s.ctl.epochInEffect, some i⟩ nofun nofun
  generalize s.report _ = r at same ⊢
  have reported : r.ctl.Working := by rwa [same]
  have counted : ((r.withWriter (r.writer.withCounts i)).withCountUnknown true).ctl.Working :=
    Working.withCountUnknown (s := r.withWriter _) reported true
  dsimp only
  split
  · exact counted.sound.endStart nofun
  · rename_i started
    rw [← same] at started
    exact (counted.operating started).failIntoRecovery.sound

theorem Operating.walkFailed (h : s.ctl.Operating) {r : FaultReport} (notRead : r.kind ≠ .oldRead)
    (notFlush : r.kind ≠ .flush) : (s.walkFailed r).ctl.Sound := by
  have reported : (s.report r).ctl.Operating := by rwa [report_ctl s r notRead notFlush]
  exact (reported.withCountUnknown true).failIntoRecovery.sound

theorem withGeometry_ctl (s : State) (g : Geometry) : (s.withGeometry g).ctl = { s.ctl with geometry := some g } := by
  unfold State.withGeometry
  split
  · rename_i same; rw [← same]
  · rfl

theorem Working.selectAnchor (h : s.ctl.Working) (found : Option (Copy × Anchor)) :
    (s.selectAnchor found).ctl.Sound := by
  unfold State.selectAnchor
  split
  · exact h.sound.endStart nofun
  · rename_i copy a
    have placed : ((s.loaded copy a).withGeometry a.geometry).ctl.Working := by
      rw [withGeometry_ctl]
      exact h.of_standing rfl
    exact met_either (P := fun t => t.ctl.Sound) ((placed.withStartCycle _).withPhase rfl rfl).sound
      (placed.withPhase rfl rfl).sound

/-! ### Host requests and the write lane -/

theorem decideRead_ctl (s : State) (k : SlotKey) : (s.decideRead k).ctl = s.ctl := by
  unfold State.decideRead State.slotRead State.readMatched State.readAllocated
  split
  · rfl
  · split <;> split <;> rfl

theorem decideWrite_ctl (s : State) (e : Entry) : (s.decideWrite e).ctl = s.ctl :=
  met_either (P := fun t => t.ctl = s.ctl) rfl (met_either (P := fun t => t.ctl = s.ctl) rfl
    (met_either (P := fun t => t.ctl = s.ctl) rfl (met_either (P := fun t => t.ctl = s.ctl) rfl rfl)))

theorem decideHost_ctl {decided : State} (same : decided.ctl = s.ctl) (addr : BitVec 28) (len : Nat) :
    (s.decideHost addr len decided).ctl = s.ctl :=
  met_either (P := fun t => t.ctl = s.ctl) rfl (met_either (P := fun t => t.ctl = s.ctl) rfl
    (met_either (P := fun t => t.ctl = s.ctl) rfl same))

theorem takeEntry_ctl (s : State) (i : Nat) (e : Entry) : (s.takeEntry i e).ctl = s.ctl := by
  have discarded : (s.takeDiscard i e).ctl = s.ctl :=
    (report_ctl _ (s.tableDiscardReport e) nofun nofun).trans (depart_ctl s i)
  have elided : (s.takeElide i).ctl = s.ctl := depart_ctl s i
  unfold State.takeEntry
  split
  case h_1 | h_2 | h_3 => exact discarded
  case h_4 => exact met_either (P := fun t => t.ctl = s.ctl) elided rfl
  case h_5 region touch elide _ =>
    have recorded : (s.takeRecord i e region touch elide).ctl = s.ctl := by
      unfold State.takeRecord State.fullReport
      repeat' split
      all_goals rfl
    exact met_either (P := fun t => t.ctl = s.ctl) elided (met_either (P := fun t => t.ctl = s.ctl) rfl recorded)

theorem classifierTake_ctl (s : State) : s.classifierTake.ctl = s.ctl := by
  unfold State.classifierTake
  split
  · split
    · rfl
    · split
      · rfl
      · exact (quietTest_ctl _).trans (takeEntry_ctl s _ _)
  · rfl

theorem Sound.oldDataAnswered (h : s.ctl.Sound) (c : Classification) (old : Option (List Word)) :
    (s.oldDataAnswered c old).ctl.Sound := by
  have reported (k : Classifier) := Sound.report (s := s.withClassifier k) h (s.oldReadReport c)
  unfold State.oldDataAnswered
  split
  · split
    · exact h
    · exact reported _
  · split
    · refine met_either (P := fun t => t.ctl.Sound) ?_ h
      change (s.depart _).ctl.Sound
      rwa [depart_ctl]
    · exact reported _

/-- R120: an item of a RESUME completes, which no condition reads. -/
theorem Sound.readItemDone (h : s.ctl.Sound) (ok : Bool) : (s.readItemDone ok).ctl.Sound := h.of_standing rfl

theorem Sound.flushItemDone (h : s.ctl.Sound) (ok : Bool) : (s.flushItemDone ok).ctl.Sound := h.of_standing rfl

theorem Sound.answered (h : s.ctl.Sound) (isError : Bool) : (s.answered isError).ctl.Sound := by rwa [answered_ctl]

theorem Working.answered (h : s.ctl.Working) (isError : Bool) : (s.answered isError).ctl.Working := by
  rwa [answered_ctl]

theorem Sound.answeredWrite (h : s.ctl.Sound) (m : Mem) (isError : Bool) :
    ((s.withMem m).answered isError).ctl.Sound := Sound.answered (s := s.withMem m) h isError

theorem Working.answeredWrite (h : s.ctl.Working) (m : Mem) (isError : Bool) :
    ((s.withMem m).answered isError).ctl.Working := Working.answered (s := s.withMem m) h isError

theorem Sound.oldDataReadDone (h : s.ctl.Sound) (answer : ReadAnswer) : (s.oldDataReadDone answer).ctl.Sound := by
  unfold State.oldDataReadDone
  split
  · exact (((h.answered _).oldDataAnswered _ _).readItemDone _).settle
  · exact h

theorem Sound.recordOkay (h : s.ctl.Sound) (b : Bool) (rest : List JournalRecord) :
    (s.recordOkay b rest).ctl.Sound := by
  have counted : (s.withWriter (s.writer.recordDurable b rest)).warnTest.ctl.Sound := by
    rw [warnTest_ctl]
    exact h
  exact met_either (P := fun t => t.ctl.Sound) (counted.flushItemDone true) counted

theorem Sound.recordError (h : s.ctl.Sound) (b : Bool) (r : JournalRecord) : (s.recordError b r).ctl.Sound :=
  have failed : (s.withWriter (s.writer.setBank b { s.writer.bank b with state := .flushFailed })).ctl.Sound := h
  (failed.report _).flushItemDone false

theorem Sound.recordWriteDone (h : s.ctl.Sound) (answer : WriteAnswer) : (s.recordWriteDone answer).ctl.Sound := by
  unfold State.recordWriteDone
  split
  · split
    · have idle (m : Mem) := h.answeredWrite m answer.isError
      exact Sound.settle (met_either (P := fun t => t.ctl.Sound) ((idle _).recordError _ _) ((idle _).recordOkay _ _))
    · exact h
  · exact h

theorem Sound.commitWriteDone (h : s.ctl.Sound) (answer : WriteAnswer) : (s.commitWriteDone answer).ctl.Sound := by
  unfold State.commitWriteDone
  split
  · have departed (m : Mem) : (((s.withMem m).answered answer.isError).depart 0).ctl.Sound := by
      rw [depart_ctl]
      exact h.answeredWrite m _
    exact met_either (P := fun t => t.ctl.Sound)
      (Sound.settle (met_either (P := fun t => t.ctl.Sound) ((departed _).report _) (departed _))) h
  · exact h

/-! ### Sweeps and the answers to the epoch controller -/

theorem Sound.sweepFollows (h : s.ctl.Sound) : s.sweepFollows.ctl.Sound := by
  unfold State.sweepFollows
  split
  · rename_i p
    exact met_either (P := fun t => t.ctl.Sound) ((h.working_of_phase p nofun).withPhase rfl rfl).sound h
  · rename_i p
    exact ((h.working_of_phase p nofun).operating_of_phase p rfl).sweepWaitTest.sound
  · exact h

theorem Sound.sweepEnded (h : s.ctl.Sound) :
    (if s.maps.sweeping.isSome then (s.withMaps s.maps.sweepEnded).sweepFollows else s).ctl.Sound :=
  met_either (P := fun t => t.ctl.Sound) (Sound.sweepFollows (s := s.withMaps _) h) h

theorem Working.copyRead (h : s.ctl.Working) (copy : Copy) (copyA found : Option Anchor) :
    (s.copyRead copy copyA found).ctl.Sound := by
  cases copy with
  | a => exact (h.withWork rfl).sound
  | b => exact h.selectAnchor _

theorem Sound.anchorReadDone (h : s.ctl.Sound) (answer : ReadAnswer) : (s.anchorReadDone answer).ctl.Sound := by
  unfold State.anchorReadDone
  split
  · rename_i stands
    have idle := (h.working_of_work stands nofun).answered answer.isError
    unfold State.anchorReadAnswered
    split
    · exact idle.copyRead _ _ _
    · exact (idle.withWork rfl).sound
    · exact idle.copyRead _ _ _
  · exact h

theorem Sound.anchorWriteDone (h : s.ctl.Sound) (answer : WriteAnswer) : (s.anchorWriteDone answer).ctl.Sound := by
  unfold State.anchorWriteDone
  split
  · rename_i stands
    have idle (m : Mem) := (h.working_of_work stands nofun).answeredWrite m answer.isError
    refine Sound.quietTest ?_
    unfold State.anchorWriteAnswered
    split
    · exact ((idle _).withWork rfl).sound
    · exact (idle _).anchorAcknowledged _
    · exact (idle _).anchorWriteFailed _
    · exact ((idle _).withWork rfl).sound
  · exact h

theorem Sound.anchorReadBackDone (h : s.ctl.Sound) (answer : ReadAnswer) :
    (s.anchorReadBackDone answer).ctl.Sound := by
  unfold State.anchorReadBackDone
  split
  · rename_i stands
    have idle := (h.working_of_work stands nofun).answered answer.isError
    refine Sound.quietTest ?_
    unfold State.readBackAnswered
    split
    · exact (idle.withWork rfl).sound
    · exact (idle.withWork rfl).sound
    · exact met_either (P := fun t => t.ctl.Sound) (idle.anchorAcknowledged _) (idle.anchorWriteFailed _)
  · exact h

theorem Working.clearAnswered (h : s.ctl.Working) (acc : Access) (k : Nat) (isError : Bool) :
    (s.clearAnswered acc k isError).ctl.Sound := by
  have reported : (s.report (clearWriteReport acc)).ctl.Working := by
    rwa [report_ctl s (clearWriteReport acc) nofun nofun]
  exact met_either (P := fun t => t.ctl.Sound) reported.cycleFailed
    (met_either (P := fun t => t.ctl.Sound) (h.withWork rfl).sound (h.withPhase rfl rfl).sound)

theorem Sound.clearWriteDone (h : s.ctl.Sound) (answer : WriteAnswer) : (s.clearWriteDone answer).ctl.Sound := by
  unfold State.clearWriteDone
  split
  · rename_i stands
    exact (((h.working_of_work stands nofun).answeredWrite _ _).clearAnswered _ _ _).quietTest
  · exact h

theorem Sound.scanReadDone (h : s.ctl.Sound) (answer : ReadAnswer) : (s.scanReadDone answer).ctl.Sound := by
  unfold State.scanReadDone
  split
  · rename_i stands
    have idle := (h.working_of_work stands nofun).answered answer.isError
    refine Sound.quietTest ?_
    unfold State.scanAnswered
    split
    · exact idle.scanFailed _
    · exact met_either (P := fun t => t.ctl.Sound)
        (met_either (P := fun t => t.ctl.Sound) (idle.withWork rfl).sound (idle.scanCompleted _)) (idle.scanCompleted _)
  · exact h

/-- R138: the walk is an operation's. -/
theorem Sound.walkReadDone (h : s.ctl.Sound) (answer : ReadAnswer) : (s.walkReadDone answer).ctl.Sound := by
  unfold State.walkReadDone
  split
  · rename_i stands
    have walking : (s.answered answer.isError).ctl.Operating := by
      rw [answered_ctl]
      exact (h.working_of_work stands nofun).operating_of_work stands rfl
    refine Sound.quietTest ?_
    unfold State.walkReadAnswered
    split
    · exact walking.walkFailed nofun nofun
    · exact met_either (P := fun t => t.ctl.Sound) (walking.withPhase _ _).sound (walking.walkFailed nofun nofun)
  · exact h

theorem Operating.walkRestored (h : s.ctl.Operating) (i : Nat) : (s.walkRestored i).ctl.Sound :=
  have counted := h.withWalkRemaining (s.ctl.walkRemaining - 1)
  met_either (P := fun t => t.ctl.Sound) counted.enterSweepWait.sound (counted.withPhase _ _).sound

theorem Sound.walkWriteDone (h : s.ctl.Sound) (answer : WriteAnswer) : (s.walkWriteDone answer).ctl.Sound := by
  unfold State.walkWriteDone
  split
  · rename_i stands
    have walking (m : Mem) : ((s.withMem m).answered answer.isError).ctl.Operating := by
      rw [answered_ctl]
      exact (h.working_of_work stands nofun).operating_of_work stands rfl
    exact Sound.quietTest (met_either (P := fun t => t.ctl.Sound) ((walking _).walkFailed nofun nofun)
      ((walking _).walkRestored _))
  · exact h

/-! ### The read lane and the service port -/

theorem Sound.fetchAnswered (h : s.ctl.Sound) (i : Fin 4) (words : Option (List Word)) :
    (s.fetchAnswered i words).ctl.Sound := by
  have fetched (r : ReadSlots) : (s.withReads r).ctl.Sound := h
  unfold State.fetchAnswered
  split
  · exact met_either (P := fun t => t.ctl.Sound) ((fetched _).report _) (fetched _)
  · exact h

theorem Sound.fetchDone (h : s.ctl.Sound) (answer : ReadAnswer) : (s.fetchDone answer).ctl.Sound := by
  unfold State.fetchDone
  split
  · exact (h.answered _).fetchAnswered _ _
  · exact h

theorem Sound.peekReadDone (h : s.ctl.Sound) (answer : ReadAnswer) : (s.peekReadDone answer).ctl.Sound := by
  unfold State.peekReadDone
  split
  · exact h.answered answer.isError
  · exact h

theorem setTuningRule_ctl (s : State) (threshold : Byte) (coalesce discard : BitVec 16) (warning : Word)
    (mask : Byte) : (s.setTuningRule threshold coalesce discard warning mask).state.ctl = s.ctl := by
  unfold State.setTuningRule State.thresholdTest State.settingTest
  repeat' split
  all_goals simp only [State.done, State.refuse, warnTest_ctl, sealTest_ctl]
  all_goals rfl

theorem stageRegionRule_ctl (s : State) (index : Byte) (e : StoredEntry) :
    (s.stageRegionRule index e).state.ctl = s.ctl := by
  unfold State.stageRegionRule
  repeat' split
  all_goals rfl

theorem peekRecordRule_ctl (s : State) (slot : Word) : (s.peekRecordRule slot).state.ctl = s.ctl := by
  unfold State.peekRecordRule
  repeat' split
  all_goals rfl

/-- R105: an admitted operation is in progress. -/
theorem admitted_operating (started : s.ctl.journal ≠ .starting) (kind : OpKind) (args : Option Geometry) :
    (s.admitted kind args).ctl.Operating := ⟨nofun, started⟩

theorem frozenIn_operating (started : s.ctl.journal ≠ .starting) (kind : OpKind) (args : Option Geometry)
    (p : Phase) : ((s.admitted kind args).frozenIn p).ctl.Operating := ⟨nofun, started⟩

theorem Sound.checkpointRule (h : s.ctl.Sound) (started : s.ctl.journal ≠ .starting) :
    s.checkpointRule.state.ctl.Sound := by
  unfold State.checkpointRule
  split
  · exact h
  · split
    · exact (frozenIn_operating started _ _ _).freezeTest.sound
    · exact h

theorem Sound.adoptRule (h : s.ctl.Sound) (started : s.ctl.journal ≠ .starting) : s.adoptRule.state.ctl.Sound := by
  unfold State.adoptRule
  split
  · exact h
  · split
    · exact (admitted_operating started _ _).enterSweepWait.sound
    · exact h

theorem Sound.formatRule (h : s.ctl.Sound) (started : s.ctl.journal ≠ .starting) (base size : Word) :
    (s.formatRule base size).state.ctl.Sound := by
  unfold State.formatRule
  split
  · exact h
  · dsimp only
    split
    · split
      · exact (frozenIn_operating started _ _ _).freezeTest.sound
      · exact h
    · exact h

theorem Sound.rollbackRule (h : s.ctl.Sound) (started : s.ctl.journal ≠ .starting) :
    s.rollbackRule.state.ctl.Sound := by
  unfold State.rollbackRule
  split
  · exact h
  · have freed : (((s.admitted .rollback none).frozenIn .quiesce).freeAllSlots).ctl.Operating :=
      frozenIn_operating started _ _ _
    exact freed.quiesceTest.sound

theorem Operating.resumeFlushes (h : s.ctl.Operating) : s.resumeFlushes.ctl.Operating := by
  unfold State.resumeFlushes
  split
  · exact h
  · exact ⟨h.op, h.journal⟩

theorem Operating.resumeReads (h : s.ctl.Operating) : s.resumeReads.ctl.Operating := by
  unfold State.resumeReads
  split
  · exact h
  · exact ⟨h.op, h.journal⟩
  · exact ⟨h.op, h.journal⟩

theorem Sound.resumeRule (h : s.ctl.Sound) (started : s.ctl.journal ≠ .starting) : s.resumeRule.state.ctl.Sound := by
  unfold State.resumeRule
  split
  · exact h
  · exact ((admitted_operating started _ _).withPhase _ _).resumeFlushes.resumeReads.resumeTest

/-- R183: a command that changes the controller is not executed in STARTING. -/
theorem Sound.execute (h : s.ctl.Sound) (c : ServiceCommand) : (s.execute c).state.ctl.Sound := by
  have started (run : ¬(s.ctl.journal = .starting ∧ inStart c = false)) (later : inStart c = false) :
      s.ctl.journal ≠ .starting := fun starting => run ⟨starting, later⟩
  unfold State.execute
  split
  · exact h
  · rename_i run
    cases c with
    | getStatus | getFault | clearFault | getCounters | clearCounters | clearAttention => exact h
    | setTuning => exact (setTuningRule_ctl _ _ _ _ _ _).symm ▸ h
    | stageRegion => exact (stageRegionRule_ctl _ _ _).symm ▸ h
    | getRegion copy index => exact (congrArg State.ctl (getRegionRule_state s copy index)).symm ▸ h
    | peekRecord => exact (peekRecordRule_ctl _ _).symm ▸ h
    | format base size => exact h.formatRule (started run rfl) base size
    | checkpoint => exact h.checkpointRule (started run rfl)
    | adopt => exact h.adoptRule (started run rfl)
    | rollback => exact h.rollbackRule (started run rfl)
    | resume => exact h.resumeRule (started run rfl)

theorem Sound.serviceRequest (h : s.ctl.Sound) (tag : Byte) (c : ServiceCommand) :
    (s.serviceRequest tag c).ctl.Sound :=
  met_either (P := fun t => t.ctl.Sound) h (Sound.execute (s := s.collect _ _) h c)

theorem Sound.decideFrame (h : s.ctl.Sound) (v : FrameVerdict) : (s.decideFrame v).ctl.Sound := by
  cases v with
  | malformed | unknown | badLength => exact h
  | command tag c => exact h.execute c

theorem Sound.servicePeriod (h : s.ctl.Sound) (period : List Byte) : (s.servicePeriod period).ctl.Sound := by
  cases period with
  | nil => exact h
  | cons type bytes =>
    have heard : (s.collect bytes (1 + bytes.length)).ctl.Sound := h
    exact met_either (P := fun t => t.ctl.Sound)
      (met_either (P := fun t => t.ctl.Sound) heard (heard.decideFrame _))
      (met_either (P := fun t => t.ctl.Sound) h h)

end EpochController

/-! ### The commands -/

open EpochController

/-- A change that keeps the RESET line and the controller keeps the invariant. -/
theorem State.ControllerSound.of_same (h : s.ControllerSound) (ctl : t.ctl = s.ctl) (line : t.inReset = s.inReset) :
    t.ControllerSound := by
  unfold State.ControllerSound State.IdleController State.StartingAlone State.ResetStarting
  rw [ctl, line]
  exact h

theorem reset_controllerSound : State.reset.ControllerSound :=
  ⟨fun _ => ⟨rfl, rfl, rfl, fun started => absurd rfl started⟩,
    fun _ => ⟨rfl, rfl, nofun, fun _ => rfl⟩, fun _ => rfl⟩

/-- R123: the release of RESET begins start-up. -/
theorem resetReleased_controllerSound (h : s.ControllerSound) (held : s.inReset = true) :
    ({ s with inReset := false }.withPhase .mapSweep .rest).quietTest.ControllerSound := by
  obtain ⟨idle, alone, starting⟩ := h
  obtain ⟨op, -, -, -⟩ := alone (starting held)
  obtain ⟨freeze, drain, args, -⟩ := idle op
  refine Sound.controllerSound ?_ (quietTest_outer _).inReset
  rw [quietTest_ctl]
  exact StartingUp.sound ⟨⟨op, freeze, drain, args⟩, starting held, rfl, rfl⟩

theorem exec_controllerSound (i : Instr) (h : s.ControllerSound) : NextMeets State.ControllerSound (exec i s) := by
  have running {t : State} (line : Orderly s t) (kept : s.ctl.Sound → t.ctl.Sound) :
      NextMeets State.ControllerSound (s.running t) := by
    refine nextMeets_next ?_
    split
    · exact h
    · rename_i out
      have out := Bool.eq_false_iff.2 out
      exact (kept (h.sound out)).controllerSound (line.inReset.trans out)
  have untouched {t : State} (line : Orderly s t) (ctl : t.ctl = s.ctl) :
      NextMeets State.ControllerSound (s.running t) := nextMeets_running h (h.of_same ctl line.inReset)
  cases i with
  | hostRead master addr len =>
    exact untouched (decideHost_orderly (decideRead_orderly s _) addr len)
      (decideHost_ctl (decideRead_ctl s _) addr len)
  | hostWrite master addr len data =>
    exact untouched (decideHost_orderly (decideWrite_orderly s _) addr len)
      (decideHost_ctl (decideWrite_ctl s _) addr len)
  | resetAsserted left => exact nextMeets_next (reset_controllerSound.of_same rfl rfl)
  | resetReleased =>
    refine nextMeets_next ?_
    split
    · rename_i held; exact resetReleased_controllerSound h held
    · exact h
  | pfailAsserted =>
    have sealed := sealTest_outer { s with faults := { s.faults with hold := true } }
    exact nextMeets_next (met_either h (h.of_same ((quietTest_ctl _).trans (sealTest_ctl _))
      (sealed.trans (quietTest_outer _)).inReset))
  | pfailDeasserted => exact nextMeets_next (h.of_same rfl rfl)
  | getStatus | getFault | clearFault | getCounters | clearCounters | setTuning | stageRegion | getRegion | format
  | checkpoint | adopt | rollback | resume | peekRecord | clearAttention =>
    exact running (serviceRequest_outer s _ _).orderly fun sound => sound.serviceRequest _ _
  | responseFetch clocked => exact untouched ⟨⟨rfl, id⟩, rfl⟩ rfl
  | memoryGrant =>
    refine nextMeets_memoryGrant h fun f => h.of_same ?_ (grantedTo_orderly s f).inReset
    obtain ⟨owner, _⟩ := f
    cases owner <;> rfl
  | classifierTake => exact untouched (classifierTake_outer s).orderly (classifierTake_ctl s)
  | oldDataReadDone answer => exact running (oldDataReadDone_orderly s answer) fun sound => sound.oldDataReadDone answer
  | coalesceTimerExpiry =>
    exact untouched (met_either (coalesceExpired_outer s).orderly (.refl s))
      (met_either (P := fun t => t.ctl = s.ctl) (sealTest_ctl _) rfl)
  | recordWriteDone answer => exact running (recordWriteDone_orderly s answer) fun sound => sound.recordWriteDone answer
  | commitWriteDone answer => exact running (commitWriteDone_orderly s answer) fun sound => sound.commitWriteDone answer
  | fetchDone answer => exact running (fetchDone_orderly s answer) fun sound => sound.fetchDone answer
  | slotDiscardTimerExpiry slot =>
    exact untouched (met_either ⟨⟨rfl, id⟩, rfl⟩ (.refl s)) (met_either (P := fun t => t.ctl = s.ctl) rfl rfl)
  | peekReadDone answer => exact running (peekReadDone_orderly s answer) fun sound => sound.peekReadDone answer
  | sweepEnd => exact running (sweepEnded_orderly s) fun sound => sound.sweepEnded
  | anchorReadDone answer => exact running (anchorReadDone_orderly s answer) fun sound => sound.anchorReadDone answer
  | anchorWriteDone answer => exact running (anchorWriteDone_orderly s answer) fun sound => sound.anchorWriteDone answer
  | anchorReadBackDone answer =>
    exact running (anchorReadBackDone_orderly s answer) fun sound => sound.anchorReadBackDone answer
  | clearWriteDone answer => exact running (clearWriteDone_orderly s answer) fun sound => sound.clearWriteDone answer
  | scanReadDone answer => exact running (scanReadDone_orderly s answer) fun sound => sound.scanReadDone answer
  | walkReadDone answer => exact running (walkReadDone_orderly s answer) fun sound => sound.walkReadDone answer
  | walkWriteDone answer => exact running (walkWriteDone_orderly s answer) fun sound => sound.walkWriteDone answer
  | requestFrame period => exact running (servicePeriod_outer s period).orderly fun sound => sound.servicePeriod period

end Sys2Proof.Machine

namespace Sys2Proof.Proofs

open Sys2Proof Sys2Proof.Machine

/-- Settles O59: a command finds the controller in an operation, in start-up or at rest, and leaves it in one of the
three. -/
theorem controllerStaysSound : Obligations.ControllerStaysSound := by
  unfold Obligations.ControllerStaysSound
  intro s t sound
  exact step_nextMeets sound (fun c rest => exec_controllerSound c (s := s.withPending rest) (sound.of_same rfl rfl)) t

/-- Settles O60: RESET leaves an empty memory and queue, FREE slots, PFQUIET deasserted and the controller in STARTING
with nothing begun. -/
theorem resetMeetsInvariants : Obligations.ResetMeetsInvariants := by
  unfold Obligations.ResetMeetsInvariants
  exact ⟨rfl, Nat.zero_le _, State.SlotsFresh.reset, (fun up => nomatch up), reset_controllerSound⟩

end Sys2Proof.Proofs
end

section
/-! R1 to R16. The lookup is judged in three steps: the anchor block and the record area come first, the entry that
covers a granule decides otherwise, and in a legal table one entry alone can. A touch index lies in its entry's own run
of indices, which ends where a later entry's begins. -/

namespace Sys2Proof.Machine

/-! ### Entries and tables -/

theorem RegionEntry.covers_iff (e : RegionEntry) (g : Nat) :
    e.covers g = true ↔ e.mode ≠ .off ∧ e.base ≤ g ∧ g < e.base + e.length := by
  simp [RegionEntry.covers, and_assoc]

theorem Geometry.covers_iff (a : Geometry) (g : Nat) :
    a.covers g = true ↔ a.base / 32 ≤ g ∧ g < (a.base + a.size) / 32 := by
  simp [Geometry.covers]

theorem RegionEntry.overlaps_of_covers {e f : RegionEntry} {g : Nat} (he : e.covers g = true) (hf : f.covers g = true) :
    e.overlaps f = true := by
  rw [covers_iff] at he hf
  obtain ⟨eMode, eBase, eEnd⟩ := he
  obtain ⟨fMode, fBase, fEnd⟩ := hf
  simp only [overlaps, runsOverlap, Bool.and_eq_true, bne_iff_ne, ne_eq, decide_eq_true_eq]
  exact ⟨⟨eMode, fMode⟩, by omega⟩

theorem noneOverlap_iff (es : List RegionEntry) :
    noneOverlap es = true ↔ es.Pairwise fun e f => e.overlaps f = false := by
  induction es with
  | nil => simp [noneOverlap]
  | cons e rest ih => simp [noneOverlap, ih, List.pairwise_cons]

/-- R7, tests 4 to 6: what a legal entry covers lies past the anchor block and outside the record area. -/
theorem RegionEntry.covers_of_legal {e : RegionEntry} {a : Geometry} {g : Nat} (legal : e.legal a = true)
    (covers : e.covers g = true) : 8 ≤ g ∧ a.covers g = false := by
  have placed : e.mode ≠ .off → 8 ≤ e.base ∧ e.overlapsArea a = false := by
    intro on
    cases mode : e.mode with
    | off => exact absurd mode on
    | journaled | frozen =>
      simp only [RegionEntry.legal, mode, Bool.and_eq_true, decide_eq_true_eq, Bool.not_eq_true'] at legal
      exact ⟨legal.1.2, legal.2⟩
  have run := (covers_iff e g).1 covers
  obtain ⟨on, low, high⟩ := run
  obtain ⟨above, clear⟩ := placed on
  refine ⟨by omega, Bool.eq_false_iff.2 fun inArea => ?_⟩
  have overlaps := (runsOverlap_iff e.base e.length a).2 ⟨g, low, high, inArea⟩
  simp [overlapsArea, on, overlaps] at clear

section Table

variable (t : Table)

theorem Table.toList_eq_map : t.toList = (List.finRange 8).map fun j => t[j] :=
  List.ext_getElem (by simp) fun i _ _ => by simp

theorem Table.legal_iff (a : Geometry) : t.legal a = true ↔
    (∀ j : Fin 8, t[j].legal a = true) ∧ (∀ i j : Fin 8, i < j → t[i].overlaps t[j] = false) ∧
      journaledTotal t.toList ≤ 65536 := by
  have entries : (∀ e ∈ t.toList, e.legal a = true) ↔ ∀ j : Fin 8, t[j].legal a = true := by
    rw [Table.toList_eq_map]
    simp
  have pairs : (t.toList.Pairwise fun e f => e.overlaps f = false) ↔
      ∀ i j : Fin 8, i < j → t[i].overlaps t[j] = false := by
    simp only [List.pairwise_iff_getElem, Vector.getElem_toList, Vector.length_toList, Fin.forall_iff, Fin.lt_def]
    exact ⟨fun h i hi j hj => h i j hi hj, fun h i j hi hj => h i hi j hj⟩
  rw [Table.legal, Bool.and_eq_true, Bool.and_eq_true, List.all_eq_true, noneOverlap_iff, decide_eq_true_eq, entries,
    pairs, and_assoc, Config.touchBits]

/-- R7: the entry of a legal table that covers a granule is the only one. -/
theorem Table.covers_unique {a : Geometry} (legal : t.legal a = true) {g : Nat} {i j : Fin 8}
    (hi : t[i].covers g = true) (hj : t[j].covers g = true) : i = j := by
  obtain ⟨-, apart, -⟩ := (t.legal_iff a).1 legal
  obtain below | same | above := lt_trichotomy i j
  · exact absurd (RegionEntry.overlaps_of_covers hi hj) (by rw [apart i j below]; exact Bool.false_ne_true)
  · exact same
  · exact absurd (RegionEntry.overlaps_of_covers hj hi) (by rw [apart j i above]; exact Bool.false_ne_true)

/-! ### Touch offsets -/

/-- R13: the offset of an entry, summed over the JOURNALED entries below it. -/
theorem touchOffset_eq (j : Fin 8) : touchOffset t j =
    (((List.finRange 8).filter fun k => k < j ∧ t[k].mode = .journaled).map fun k => t[k].length).sum := by
  have below : ∀ j : Fin 8, (List.finRange 8).take j = (List.finRange 8).filter (· < j) := by decide
  unfold touchOffset journaledTotal
  rw [Table.toList_eq_map, ← List.map_take, below, List.map_map]
  refine (List.sum_map_ite (fun k : Fin 8 => t[k].mode = .journaled) _ _ _).trans ?_
  simp only [List.filter_filter, List.map_const', List.sum_replicate, smul_zero, add_zero, Bool.decide_and,
    Bool.and_comm]

/-- R13: the run of an entry's touch indices ends where the run of a later one begins. -/
theorem journaledTotal_take_add_le {es : List RegionEntry} {i j : Nat} {e : RegionEntry} (at_j : es[j]? = some e)
    (journaled : e.mode = .journaled) (lt : j < i) :
    journaledTotal (es.take j) + e.length ≤ journaledTotal (es.take i) := by
  induction es generalizing i j with
  | nil => simp at at_j
  | cons x rest ih =>
    obtain ⟨i, rfl⟩ := Nat.exists_eq_add_of_lt (Nat.zero_lt_of_lt lt)
    cases j with
    | zero =>
      simp only [List.getElem?_cons_zero, Option.some.injEq] at at_j
      subst at_j
      simp [journaledTotal, journaled]
    | succ j =>
      have := ih (i := i) (j := j) (by simpa using at_j) (by omega)
      simp only [journaledTotal, Nat.zero_add, List.take_succ_cons, List.map_cons, List.sum_cons] at this ⊢
      omega

theorem touchOffset_add_le {i j : Fin 8} (journaled : t[j].mode = .journaled) (lt : j < i) :
    touchOffset t j + t[j].length ≤ touchOffset t i :=
  journaledTotal_take_add_le (by simp) journaled lt

theorem touchOffset_add_le_total {j : Fin 8} (journaled : t[j].mode = .journaled) :
    touchOffset t j + t[j].length ≤ journaledTotal t.toList := by
  have total := journaledTotal_take_add_le (es := t.toList) (i := 8) (j := j) (by simp) journaled j.isLt
  rw [show t.toList.take 8 = t.toList from List.take_of_length_le (by simp)] at total
  exact total

end Table

/-! ### The lookup -/

variable {t : Table} {geometry : Option Geometry} {g : Nat}

/-- A granule lies in the record area of a known geometry. -/
def InArea (geometry : Option Geometry) (g : Nat) : Prop :=
  ∃ a, geometry = some a ∧ a.base / 32 ≤ g ∧ g < (a.base + a.size) / 32

theorem inArea_iff (geometry : Option Geometry) (g : Nat) :
    geometry.any (fun a => a.covers g) = true ↔ InArea geometry g := by
  cases geometry <;> simp [InArea, Geometry.covers_iff]

theorem lookup_of_anchorBlock (low : g < 8) : lookup t geometry g = .anchor := if_pos low

theorem lookup_of_inArea (high : 8 ≤ g) (inArea : InArea geometry g) : lookup t geometry g = .recordArea := by
  unfold lookup
  rw [if_neg (by omega), if_pos ((inArea_iff geometry g).2 inArea)]

/-- Outside the part's own places a granule is UNPROTECTED where no entry covers it, and otherwise has the class that
the first entry to cover it gives it. -/
theorem lookup_of_outside (high : 8 ≤ g) (outside : ¬InArea geometry g) :
    ((∀ j : Fin 8, t[j].covers g = false) ∧ lookup t geometry g = .unprotected) ∨
      ∃ j : Fin 8, t[j].covers g = true ∧ lookup t geometry g = entryClass t j t[j] g := by
  unfold lookup
  rw [if_neg (by omega), if_neg (mt (inArea_iff geometry g).1 outside)]
  cases found : t.toList.findIdx? (fun e => e.covers g) with
  | none =>
    rw [List.findIdx?_eq_none_iff] at found
    exact .inl ⟨fun j => found _ (by simp), rfl⟩
  | some j =>
    obtain ⟨lt, covers, -⟩ := List.findIdx?_eq_some_iff_getElem.1 found
    have lt8 : j < 8 := by simpa using lt
    refine .inr ⟨⟨j, lt8⟩, by simpa using covers, ?_⟩
    simp [lt8]

/-- The class an entry gives a granule it covers is JOURNALED or FROZEN. -/
theorem entryClass_of_covers {j : Nat} {e : RegionEntry} (covers : e.covers g = true) :
    (e.mode = .journaled ∧ entryClass t j e g = .journaled j (touchOffset t j + (g - e.base)) e.elide) ∨
      (e.mode = .frozen ∧ entryClass t j e g = .frozen j) := by
  obtain ⟨on, -, -⟩ := (e.covers_iff g).1 covers
  unfold entryClass
  cases mode : e.mode with
  | off => exact absurd mode on
  | journaled => exact .inl ⟨rfl, rfl⟩
  | frozen => exact .inr ⟨rfl, rfl⟩

/-- The four places of a granule, with its class in each. -/
theorem lookup_cases (t : Table) (geometry : Option Geometry) (g : Nat) :
    (g < 8 ∧ lookup t geometry g = .anchor) ∨
      (8 ≤ g ∧ InArea geometry g ∧ lookup t geometry g = .recordArea) ∨
      (8 ≤ g ∧ ¬InArea geometry g ∧ (∀ j : Fin 8, t[j].covers g = false) ∧ lookup t geometry g = .unprotected) ∨
      ∃ j : Fin 8, 8 ≤ g ∧ ¬InArea geometry g ∧ t[j].covers g = true ∧
        ((t[j].mode = .journaled ∧
            lookup t geometry g = .journaled j (touchOffset t j + (g - t[j].base)) t[j].elide) ∨
          (t[j].mode = .frozen ∧ lookup t geometry g = .frozen j)) := by
  by_cases low : g < 8
  · exact .inl ⟨low, lookup_of_anchorBlock low⟩
  · have high := Nat.not_lt.1 low
    by_cases inArea : InArea geometry g
    · exact .inr (.inl ⟨high, inArea, lookup_of_inArea high inArea⟩)
    · obtain ⟨none, unprotected⟩ | ⟨j, covers, eq⟩ := lookup_of_outside (t := t) high inArea
      · exact .inr (.inr (.inl ⟨high, inArea, none, unprotected⟩))
      · exact .inr (.inr (.inr ⟨j, high, inArea, covers, eq ▸ entryClass_of_covers covers⟩))

/-- R13, R14: in a legal table the entry that covers a granule gives it its class. -/
theorem lookup_of_covers {a : Geometry} (known : geometry = some a) (legal : t.legal a = true) {j : Fin 8}
    (covers : t[j].covers g = true) : lookup t geometry g = entryClass t j t[j] g := by
  obtain ⟨entries, -, -⟩ := (t.legal_iff a).1 legal
  obtain ⟨high, clear⟩ := RegionEntry.covers_of_legal (entries j) covers
  have outside : ¬InArea geometry g := by
    rw [← inArea_iff, known]
    simp [clear]
  obtain ⟨none, -⟩ | ⟨i, covers', eq⟩ := lookup_of_outside (t := t) high outside
  · exact absurd covers (by rw [none j]; exact Bool.false_ne_true)
  · rw [eq, t.covers_unique legal covers' covers]

theorem lookup_eq_journaled {j touch : Nat} {elide : Bool} (h : lookup t geometry g = .journaled j touch elide) :
    ∃ lt : j < 8, t[j].covers g = true ∧ t[j].mode = .journaled ∧ touch = touchOffset t j + (g - t[j].base) ∧
      elide = t[j].elide := by
  obtain ⟨-, eq⟩ | ⟨-, -, eq⟩ | ⟨-, -, -, eq⟩ | ⟨i, -, -, covers, ⟨mode, eq⟩ | ⟨-, eq⟩⟩ := lookup_cases t geometry g
  case inr.inr.inr.inl =>
    rw [eq] at h
    injection h with index touch elide
    subst index touch elide
    exact ⟨i.isLt, covers, mode, rfl, rfl⟩
  all_goals rw [eq] at h; cases h

theorem lookup_eq_frozen {j : Nat} (h : lookup t geometry g = .frozen j) :
    ∃ lt : j < 8, t[j].covers g = true ∧ t[j].mode = .frozen := by
  obtain ⟨-, eq⟩ | ⟨-, -, eq⟩ | ⟨-, -, -, eq⟩ | ⟨i, -, -, covers, ⟨-, eq⟩ | ⟨mode, eq⟩⟩ := lookup_cases t geometry g
  case inr.inr.inr.inr =>
    rw [eq] at h
    injection h with index
    subst index
    exact ⟨i.isLt, covers, mode⟩
  all_goals rw [eq] at h; cases h

/-! ### Touch indices -/

/-- R13: a touch index lies in the run of its entry. -/
theorem touch_in_run {j touch : Nat} {elide : Bool} (h : lookup t geometry g = .journaled j touch elide) :
    ∃ i : Fin 8, i.val = j ∧ t[i].mode = .journaled ∧ t[i].base ≤ g ∧ touch = touchOffset t i + (g - t[i].base) ∧
      touch < touchOffset t i + t[i].length := by
  obtain ⟨lt, covers, mode, rfl, -⟩ := lookup_eq_journaled h
  obtain ⟨-, low, high⟩ := (RegionEntry.covers_iff _ g).1 covers
  exact ⟨⟨j, lt⟩, rfl, mode, low, rfl, by simp only [Fin.getElem_fin]; omega⟩

theorem touch_lt {a : Geometry} (legal : t.legal a = true) {j touch : Nat} {elide : Bool}
    (h : lookup t geometry g = .journaled j touch elide) : touch < 65536 := by
  obtain ⟨i, -, mode, -, -, inRun⟩ := touch_in_run h
  have room := touchOffset_add_le_total t mode
  obtain ⟨-, -, total⟩ := (t.legal_iff a).1 legal
  omega

/-- R13: no two granules share a touch index. -/
theorem touch_injective {i j touch other : Nat} {d e : Bool} (hg : lookup t geometry g = .journaled j touch e)
    (ho : lookup t geometry other = .journaled i touch d) : other = g := by
  obtain ⟨m, -, mMode, mBase, mTouch, mRun⟩ := touch_in_run hg
  obtain ⟨n, -, nMode, nBase, nTouch, nRun⟩ := touch_in_run ho
  obtain below | rfl | above := lt_trichotomy m n
  · have := touchOffset_add_le t mMode below
    omega
  · omega
  · have := touchOffset_add_le t nMode above
    omega

end Sys2Proof.Machine

namespace Sys2Proof.Proofs

open Sys2Proof Sys2Proof.Machine

/-- Settles O7: the four places of a granule, told apart by its class, and the run of touch indices of each entry. -/
theorem lookupClasses : Obligations.LookupClasses := by
  unfold Obligations.LookupClasses
  intro t geometry granule
  dsimp only
  have uncovered (j : Fin 8) : t[j].covers granule = false ↔
      ¬(t[j].mode ≠ .off ∧ t[j].base ≤ granule ∧ granule < t[j].base + t[j].length) := by
    rw [← RegionEntry.covers_iff, Bool.not_eq_true]
  have cases := lookup_cases t geometry granule
  refine ⟨?anchor, ?recordArea, ?unprotected, fun a known _ legal => ⟨?journaled, ?frozen, ?touch⟩⟩
  case anchor =>
    refine ⟨fun eq => ?_, lookup_of_anchorBlock⟩
    obtain ⟨low, -⟩ | ⟨-, -, other⟩ | ⟨-, -, -, other⟩ | ⟨_, -, -, -, ⟨-, other⟩ | ⟨-, other⟩⟩ := cases
    · exact low
    all_goals rw [eq] at other; cases other
  case recordArea =>
    refine ⟨fun eq => ?_, fun ⟨high, inArea⟩ => lookup_of_inArea high inArea⟩
    obtain ⟨-, other⟩ | ⟨high, inArea, -⟩ | ⟨-, -, -, other⟩ | ⟨_, -, -, -, ⟨-, other⟩ | ⟨-, other⟩⟩ := cases
    · rw [eq] at other; cases other
    · exact ⟨high, inArea⟩
    all_goals rw [eq] at other; cases other
  case unprotected =>
    constructor
    · intro eq
      obtain ⟨-, other⟩ | ⟨-, -, other⟩ | ⟨high, outside, none, -⟩ | ⟨_, -, -, -, ⟨-, other⟩ | ⟨-, other⟩⟩ := cases
      · rw [eq] at other; cases other
      · rw [eq] at other; cases other
      · exact ⟨high, outside, fun j => (uncovered j).1 (none j)⟩
      all_goals rw [eq] at other; cases other
    · rintro ⟨high, outside, none⟩
      obtain ⟨-, eq⟩ | ⟨j, covers, -⟩ := lookup_of_outside (t := t) high outside
      · exact eq
      · exact absurd covers (by rw [(uncovered j).2 (none j)]; exact Bool.false_ne_true)
  case journaled =>
    intro j touch elide
    rw [← RegionEntry.covers_iff, ← touchOffset_eq]
    constructor
    · intro eq
      obtain ⟨_, covers, mode, touch, elide⟩ := lookup_eq_journaled eq
      exact ⟨covers, mode, elide, touch⟩
    · rintro ⟨covers, mode, rfl, rfl⟩
      rw [lookup_of_covers known legal covers, entryClass, mode]
  case frozen =>
    intro j
    rw [← RegionEntry.covers_iff]
    constructor
    · intro eq
      obtain ⟨_, covers, mode⟩ := lookup_eq_frozen eq
      exact ⟨covers, mode⟩
    · rintro ⟨covers, mode⟩
      rw [lookup_of_covers known legal covers, entryClass, mode]
  case touch =>
    intro j touch elide eq
    obtain ⟨lt, -⟩ := lookup_eq_journaled eq
    exact ⟨lt, touch_lt legal eq, fun other i e same => touch_injective eq same⟩

end Sys2Proof.Proofs
end

section
/-! R17 to R33, R146, R147, R150. A request runs through the checks common to both kinds, and what they leave is decided
by the kind: a lemma for each check, with the response and the counter it gives. -/

namespace Sys2Proof.Machine

open Sys2Proof

variable {s : State} {m : BitVec 3} {addr : BitVec 28} {len : Nat}

/-! ### The checks common to both kinds -/

theorem exec_hostRead (out : s.inReset = false) :
    exec (.hostRead m addr len) s = .next (s.decideHost addr len (s.decideRead ⟨m, addr, len⟩)) :=
  running_next _ _ out

theorem exec_hostWrite (out : s.inReset = false) (data : List LaneWord) :
    exec (.hostWrite m addr len data) s =
      .next (s.decideHost addr len (s.decideWrite (s.newEntry m addr len data))) :=
  running_next _ _ out

theorem malformed_iff (addr : BitVec 28) (len : Nat) : malformed addr len = true ↔
    ¬((len = 1 ∨ len = 2 ∨ len = 4 ∨ len = 8) ∧ 4 * len ∣ addr.toNat) := by
  rw [Nat.dvd_iff_mod_eq_zero, not_and_or]
  simp [malformed, and_assoc]

/-- R19: a legal request lies in one granule. -/
theorem granuleOf_eq_of_legal (legal : malformed addr len = false) {j : Nat} (lt : j < 4 * len) :
    granuleOf (addr.toNat + j) = granuleOf addr.toNat := by
  rw [← Bool.not_eq_true, malformed_iff, not_not] at legal
  obtain ⟨one | two | four | eight, aligned⟩ := legal
  all_goals subst len; unfold granuleOf; omega

theorem decideHost_malformed (bad : malformed addr len = true) (t : State) :
    s.decideHost addr len t = (s.answerHost .error).bump .requestsRefused := if_pos bad

theorem decideHost_starting (legal : malformed addr len = false) (starting : s.ctl.journal = .starting) (t : State) :
    s.decideHost addr len t = (s.answerHost .retry).bump .retriesState := by
  rw [State.decideHost, if_neg (by simp [legal]), if_pos starting]
  rfl

theorem decideHost_own (legal : malformed addr len = false) (started : s.ctl.journal ≠ .starting)
    (own : (s.classOf (granuleOf addr.toNat)).isOwn = true) (t : State) :
    s.decideHost addr len t = (s.answerHost .error).bump .requestsRefused := by
  rw [State.decideHost, if_neg (by simp [legal]), if_neg started, if_pos own]
  rfl

theorem decideHost_other (legal : malformed addr len = false) (started : s.ctl.journal ≠ .starting)
    (other : (s.classOf (granuleOf addr.toNat)).isOwn = false) (t : State) : s.decideHost addr len t = t := by
  rw [State.decideHost, if_neg (by simp [legal]), if_neg started, if_neg (by simp [other])]

/-! ### Reads -/

theorem decideRead_rolledBack {k : SlotKey} (rollback : s.ctl.op = some .rollback)
    (journaled : (s.classOf k.granule).isJournaled = true) :
    s.decideRead k = (s.answerHost .retry).bump .retriesState := by
  rw [State.decideRead, if_pos (by simp [EpochController.rollingBack, rollback, journaled])]
  rfl

theorem decideRead_slot {k : SlotKey}
    (apart : s.ctl.op = some .rollback → (s.classOf k.granule).isJournaled = false) :
    s.decideRead k = s.slotRead k := by
  rw [State.decideRead, if_neg]
  simpa [EpochController.rollingBack] using apart

/-- A read that gets past the checks is the read slots' to answer. -/
theorem exec_hostRead_slot (taken : s.takesRequest addr len)
    (apart : s.ctl.op = some .rollback → (s.classOf (granuleOf addr.toNat)).isJournaled = false) :
    exec (.hostRead m addr len) s = .next (s.slotRead ⟨m, addr, len⟩) := by
  obtain ⟨out, legal, started, other⟩ := taken
  rw [exec_hostRead out, decideHost_other legal started other, decideRead_slot apart]

theorem slotRead_matched {k : SlotKey} {i : Fin 4} (key : (s.reads.slots[i]).key? = some k)
    (lowest : ∀ j < i, (s.reads.slots[j]).key? ≠ some k) : s.slotRead k = s.readMatched i := by
  rw [State.slotRead, matching_eq _ _ _ key lowest]

theorem slotRead_unmatched {k : SlotKey} (none : ∀ j : Fin 4, (s.reads.slots[j]).key? ≠ some k) :
    s.slotRead k = s.readAllocated k := by
  rw [State.slotRead, matching_none _ _ none]

theorem readMatched_ready {i : Fin 4} {k : SlotKey} {words : List Word} {timer : Nat}
    (ready : s.reads.slots[i] = .ready k words timer) :
    s.readMatched i =
      ((s.withReads (s.reads.setSlot i .free)).answerHost (.data words)).bump .readsDelivered := by
  rw [State.readMatched, ready]

theorem readMatched_failed {i : Fin 4} {k : SlotKey} {timer : Nat} (failed : s.reads.slots[i] = .failed k timer) :
    s.readMatched i = ((s.withReads (s.reads.setSlot i .free)).answerHost .error).bump .requestsRefused := by
  rw [State.readMatched, failed]
  rfl

/-- R146: a slot whose read is still under way. -/
def Slot.UnderWay (sl : Slot) : Prop :=
  (∃ k, sl = .hazardWait k) ∨ (∃ k, sl = .fetchPending k) ∨ ∃ k stale, sl = .fetching k stale

theorem readMatched_underWay {i : Fin 4} (underWay : (s.reads.slots[i]).UnderWay) :
    s.readMatched i = (s.answerHost .retry).bump .retriesRead := by
  obtain ⟨k, eq⟩ | ⟨k, eq⟩ | ⟨k, stale, eq⟩ := underWay
  all_goals rw [State.readMatched, eq]; rfl

theorem allocated_hazard {q : WriteQueue} {k : SlotKey} (hazard : ∃ e ∈ q.entries, e.granule = k.granule) :
    Slot.allocated q k = .hazardWait k := if_pos ((addresses_iff _ _).2 hazard)

theorem allocated_clear {q : WriteQueue} {k : SlotKey} (clear : ∀ e ∈ q.entries, e.granule ≠ k.granule) :
    Slot.allocated q k = .fetchPending k := by
  rw [Slot.allocated, (addresses_false _ _).2 clear]
  rfl

theorem readAllocated_free {i : Fin 4} (k : SlotKey) (free : s.reads.slots[i] = .free)
    (lowest : ∀ j < i, s.reads.slots[j] ≠ .free) :
    s.readAllocated k =
      ((s.withReads (s.reads.setSlot i (Slot.allocated s.pwq k))).answerHost .retry).bump .retriesRead := by
  rw [State.readAllocated, lowestFree_eq _ _ free lowest]
  rfl

theorem readAllocated_exhausted (k : SlotKey) (none : ∀ j : Fin 4, s.reads.slots[j] ≠ .free) :
    s.readAllocated k = (s.answerHost .retry).bump .slotsExhausted := by
  rw [State.readAllocated, lowestFree_none _ none]
  rfl

/-! ### Writes -/

/-- A write that gets past the checks is decided by R24 and R25. -/
theorem exec_hostWrite_decided (taken : s.takesRequest addr len) (data : List LaneWord) :
    exec (.hostWrite m addr len data) s = .next (s.decideWrite (s.newEntry m addr len data)) := by
  obtain ⟨out, legal, started, other⟩ := taken
  rw [exec_hostWrite out, decideHost_other legal started other]

variable {e : Entry}

theorem decideWrite_refused (refused : s.writeRefused e.granule = true) :
    s.decideWrite e = (s.answerHost .error).bump .requestsRefused := if_pos refused

theorem writeRefused_false {g : Nat} (unfrozen : ∀ i, s.classOf g ≠ .frozen i)
    (journals : (s.classOf g).isJournaled = true →
      s.ctl.journal ≠ .recoveryPending ∧ s.ctl.journal ≠ .recoveryFault ∧ s.ctl.clearPending = false) :
    s.writeRefused g = false := by
  rw [← Bool.not_eq_true, writeRefused_iff]
  rintro (⟨i, frozen⟩ | ⟨journaled, stopped⟩)
  · exact unfrozen i frozen
  · obtain ⟨notPending, notFault, notClear⟩ := journals journaled
    simp [notPending, notFault, notClear] at stopped

theorem decideWrite_held (passed : s.writeRefused e.granule = false)
    (held : s.faults.hold = true ∨ s.ctl.op = some .rollback) :
    s.decideWrite e = (s.answerHost .retry).bump .retriesState := by
  rw [State.decideWrite, if_neg (by simp [passed])]
  obtain hold | rollback := held
  · rw [if_pos hold]
    rfl
  · rw [if_pos (c := s.ctl.rollingBack = true) (by simp [EpochController.rollingBack, rollback]), ite_self]
    rfl

theorem decideWrite_open (passed : s.writeRefused e.granule = false) (unheld : s.faults.hold = false)
    (forward : s.ctl.op ≠ some .rollback) :
    s.decideWrite e =
      if 16 ≤ s.pwq.entries.length then (s.answerHost .retry).bump .retriesQueueFull else s.acceptWrite e := by
  rw [State.decideWrite, if_neg (by simp [passed]), if_neg (by simp [unheld]),
    if_neg (by simp [EpochController.rollingBack, forward])]
  rfl

/-- R150: the notice of an accepted write, by the slot's state. -/
theorem afterAcceptance_fetchPending (g : Nat) (k : SlotKey) :
    Slot.afterAcceptance g (.fetchPending k) = if k.granule = g then .hazardWait k else .fetchPending k := by
  simp [Slot.afterAcceptance, Slot.holdsGranule, Slot.key?]

theorem afterAcceptance_fetching (g : Nat) (k : SlotKey) (stale : Bool) :
    Slot.afterAcceptance g (.fetching k stale) = .fetching k (stale || decide (k.granule = g)) := by
  by_cases same : k.granule = g <;> simp [Slot.afterAcceptance, Slot.holdsGranule, Slot.key?, same]

theorem afterAcceptance_ready (g : Nat) (k : SlotKey) (words : List Word) (timer : Nat) :
    Slot.afterAcceptance g (.ready k words timer) =
      if k.granule = g then .hazardWait k else .ready k words timer := by
  simp [Slot.afterAcceptance, Slot.holdsGranule, Slot.key?]

theorem acceptWrite_eq (e : Entry) : s.acceptWrite e = { s with
    host := ⟨s.host.nextNumber + 1, some .okay⟩
    pwq := { s.pwq with entries := s.pwq.entries ++ [e] }
    reads := s.reads.mapSlots (Slot.afterAcceptance e.granule)
    counters := s.counters.set 0 (satInc s.counters[0]) } := rfl

end Sys2Proof.Machine

namespace Sys2Proof.Proofs

open Sys2Proof Sys2Proof.Machine

/-- Settles O8: the first check of a request, and a legal request lies in one granule by its alignment. -/
theorem malformedRefused : Obligations.MalformedRefused := by
  unfold Obligations.MalformedRefused
  refine ⟨malformed_iff, fun m addr len data s out bad => ⟨?_, ?_⟩, fun addr len legal j lt =>
    granuleOf_eq_of_legal legal lt⟩
  · rw [exec_hostRead out, decideHost_malformed bad]
    rfl
  · rw [exec_hostWrite out, decideHost_malformed bad]
    rfl

/-- Settles O9: the checks that follow, in their order. -/
theorem hostTurnedAway : Obligations.HostTurnedAway := by
  unfold Obligations.HostTurnedAway
  intro m addr len data s out legal
  refine ⟨fun starting => ?_, fun started own => ?_, fun started rollback i touch elide journaled => ?_⟩
  · rw [exec_hostRead out, exec_hostWrite out, decideHost_starting legal starting, decideHost_starting legal starting]
    exact ⟨rfl, rfl⟩
  · have isOwn : (s.classOf (granuleOf addr.toNat)).isOwn = true := by
      obtain anchor | area := own
      · rw [anchor]; rfl
      · rw [area]; rfl
    rw [exec_hostRead out, exec_hostWrite out, decideHost_own legal started isOwn, decideHost_own legal started isOwn]
    exact ⟨rfl, rfl⟩
  · rw [exec_hostRead out, decideHost_other legal started (by rw [journaled]; rfl)]
    exact congrArg _ (decideRead_rolledBack rollback (by rw [SlotKey.granule, journaled]; rfl))

/-- Settles O10: the slot that a read matches answers it by its state. -/
theorem readMatched : Obligations.ReadMatched := by
  unfold Obligations.ReadMatched
  intro m addr len i s taken apart key lowest
  rw [exec_hostRead_slot taken apart, slotRead_matched key lowest]
  refine ⟨fun words timer ready => ?_, fun timer failed => ?_, fun underWay => ?_⟩
  · rw [readMatched_ready ready]
    rfl
  · rw [readMatched_failed failed]
    rfl
  · rw [readMatched_underWay underWay]

/-- Settles O11: the lowest FREE slot, by the hazard test, or none. -/
theorem readAllocated : Obligations.ReadAllocated := by
  unfold Obligations.ReadAllocated
  intro m addr len s taken apart unmatched
  rw [exec_hostRead_slot taken apart, slotRead_unmatched unmatched]
  refine ⟨fun i free lowest => ?_, fun none => ?_⟩
  · rw [readAllocated_free _ free lowest]
    refine ⟨fun hazard => ?_, fun clear => ?_⟩
    · rw [allocated_hazard hazard]
      rfl
    · rw [allocated_clear clear]
      rfl
  · rw [readAllocated_exhausted _ none]

/-- Settles O12: R24, and then the three grounds of R25. -/
theorem writeTurnedAway : Obligations.WriteTurnedAway := by
  unfold Obligations.WriteTurnedAway
  intro m addr len data s taken
  rw [exec_hostWrite_decided taken]
  refine ⟨fun refused => ?_, fun unfrozen journals => ⟨fun held => ?_, fun unheld forward full => ?_⟩⟩
  · rw [decideWrite_refused ((writeRefused_iff s _).2 refused)]
  · rw [decideWrite_held (writeRefused_false unfrozen journals) held]
  · rw [decideWrite_open (writeRefused_false unfrozen journals) unheld forward, if_pos full]

/-- Settles O13: the accepted write's next state, with the notice to each slot by its state. -/
theorem writeAccepted : Obligations.WriteAccepted := by
  unfold Obligations.WriteAccepted
  intro m addr len data s taken unfrozen journals unheld forward room
  refine ⟨s.acceptWrite (s.newEntry m addr len data), ?_, rfl, rfl, fun i => ?_, rfl⟩
  · rw [exec_hostWrite_decided taken, decideWrite_open (writeRefused_false unfrozen journals) unheld forward,
      if_neg (Nat.not_le.2 room)]
  · have noticed : (s.acceptWrite (s.newEntry m addr len data)).reads.slots[i] =
        Slot.afterAcceptance (addr.toNat / 32) s.reads.slots[i] := mapSlots_get _ _ i
    rw [noticed]
    cases s.reads.slots[i] with
    | fetchPending k => exact afterAcceptance_fetchPending _ k
    | fetching k stale => exact afterAcceptance_fetching _ k stale
    | ready k words timer => exact afterAcceptance_ready _ k words timer
    | free => rfl
    | hazardWait k => exact ite_self _
    | failed k timer => exact ite_self _

end Sys2Proof.Proofs
end

section
/-! R95, R99 to R101, R180 to R184, R186. The frames of the service port and the payloads of its readings: words and
bytes read back what was written, a well formed frame is the command that its code and payload are, and each field of a
payload stands at its offset. -/

namespace Sys2Proof.Machine

/-! ### Words and bytes -/

theorem halfOf_halfBytes (h : BitVec 16) : halfOf (h.setWidth 8) ((h >>> 8).setWidth 8) = h := by
  apply BitVec.eq_of_getLsbD_eq
  intro i lt
  simp only [halfOf, BitVec.getLsbD_append, BitVec.getLsbD_setWidth, BitVec.getLsbD_ushiftRight]
  by_cases low : i < 8
  · simp [low]
  · simp [low, show i - 8 < 8 by omega, show 8 + (i - 8) = i by omega]

theorem wordOf_laneByte (w : Word) :
    wordOf (laneByte w 0) (laneByte w 1) (laneByte w 2) (laneByte w 3) = w := by
  apply BitVec.eq_of_getLsbD_eq
  intro i lt
  simp only [wordOf, laneByte, BitVec.getLsbD_append, BitVec.getLsbD_setWidth, BitVec.getLsbD_ushiftRight]
  by_cases first : i < 8
  · simp [first]
  by_cases second : i < 16
  · simp [first, show i - 8 < 8 by omega, show 8 + (i - 8) = i by omega]
  by_cases third : i < 24
  · simp [first, show ¬i - 8 < 8 by omega, show i - 8 - 8 < 8 by omega, show 16 + (i - 8 - 8) = i by omega]
  · simp [first, show ¬i - 8 < 8 by omega, show ¬i - 8 - 8 < 8 by omega, show i - 8 - 8 - 8 < 8 by omega,
      show 24 + (i - 8 - 8 - 8) = i by omega]

theorem wordBytes_wordOf (b0 b1 b2 b3 : Byte) : wordBytes (wordOf b0 b1 b2 b3) = [b0, b1, b2, b3] := by
  have lane (l : Nat) (b : Byte) (h : ∀ i < 8, (wordOf b0 b1 b2 b3).getLsbD (8 * l + i) = b.getLsbD i) :
      laneByte (wordOf b0 b1 b2 b3) l = b := by
    apply BitVec.eq_of_getLsbD_eq
    intro i lt
    simp only [laneByte, BitVec.getLsbD_setWidth, BitVec.getLsbD_ushiftRight, h i lt, lt, decide_true, Bool.true_and]
  unfold wordBytes
  rw [lane 0 b0, lane 1 b1, lane 2 b2, lane 3 b3]
  all_goals
    intro i lt
    simp only [wordOf, BitVec.getLsbD_append]
  · simp [show 8 * 3 + i - 8 - 8 - 8 = i by omega, show ¬8 * 3 + i < 8 by omega, show ¬8 * 3 + i - 8 < 8 by omega,
      show ¬8 * 3 + i - 8 - 8 < 8 by omega]
  · simp [show 8 * 2 + i - 8 - 8 = i by omega, show ¬8 * 2 + i < 8 by omega, show ¬8 * 2 + i - 8 < 8 by omega, lt]
  · simp [show 8 * 1 + i - 8 = i by omega, show ¬8 * 1 + i < 8 by omega, lt]
  · simp [lt]

theorem wordBytes_length (w : Word) : (wordBytes w).length = 4 := rfl

theorem wordsBytes_length (ws : List Word) : (wordsBytes ws).length = 4 * ws.length := by
  induction ws with
  | nil => rfl
  | cons w rest ih =>
    rw [wordsBytes, List.flatMap_cons, List.length_append, wordBytes_length, List.length_cons]
    unfold wordsBytes at ih
    omega

/-- A word's bytes stand at its place. -/
theorem take_drop_wordsBytes (ws : List Word) (i : Nat) (w : Word) (at_i : ws[i]? = some w) :
    ((wordsBytes ws).drop (4 * i)).take 4 = wordBytes w := by
  induction ws generalizing i with
  | nil => simp at at_i
  | cons x rest ih =>
    cases i with
    | zero =>
      obtain rfl : x = w := by simpa using at_i
      rfl
    | succ i =>
      have behind := ih i (by simpa using at_i)
      have short : (wordBytes x).length ≤ 4 * (i + 1) := by
        rw [wordBytes_length]
        omega
      rw [wordsBytes, List.flatMap_cons, List.drop_append, List.drop_eq_nil_of_le short, List.nil_append,
        wordBytes_length, show 4 * (i + 1) - 4 = 4 * i by omega]
      exact behind

/-! ### Request frames (R99, R100) -/

/-- R100: a code with the payload of a command is the command. -/
theorem commandOf_code (c : ServiceCommand) : commandOf c.code c.payload = some c := by
  cases c with
  | setTuning threshold coalesce discard warning mask =>
    refine congrArg some ?_
    rw [halfOf_halfBytes, halfOf_halfBytes, wordOf_laneByte]
  | stageRegion index entry =>
    refine congrArg some ?_
    rw [halfOf_halfBytes, wordOf_laneByte, wordOf_laneByte]
  | format base size =>
    refine congrArg some ?_
    rw [wordOf_laneByte, wordOf_laneByte]
  | peekRecord slot =>
    refine congrArg some ?_
    rw [wordOf_laneByte]
  | _ => rfl

/-- R99: the tests of a well formed frame, on its bytes after the payload length. -/
def FrameChecks (code tag plen : Byte) (rest : List Byte) : Prop :=
  plen.toNat ≤ 24 ∧ plen.toNat + 1 ≤ rest.length ∧
    rest[plen.toNat]? = some (crc8 (code :: tag :: plen :: rest.take plen.toNat))

section decodeRequest

variable {code tag plen : Byte} {rest : List Byte}

theorem decodeRequest_command (checks : FrameChecks code tag plen rest) {c : ServiceCommand}
    (eq : commandOf code (rest.take plen.toNat) = some c) :
    decodeRequest (code :: tag :: plen :: rest) = .command tag c := by
  refine (if_pos checks).trans ?_
  rw [eq]

theorem decodeRequest_no_command (checks : FrameChecks code tag plen rest)
    (eq : commandOf code (rest.take plen.toNat) = none) :
    decodeRequest (code :: tag :: plen :: rest) = if knownCode code then .badLength tag else .unknown tag := by
  refine (if_pos checks).trans ?_
  rw [eq]

theorem decodeRequest_malformed (fails : ¬FrameChecks code tag plen rest) :
    decodeRequest (code :: tag :: plen :: rest) = .malformed tag := if_neg fails

end decodeRequest

theorem decodeRequest_encodeRequest (tag : Byte) (c : ServiceCommand) (more : List Byte) :
    decodeRequest (encodeRequest tag c ++ more) = .command tag c := by
  have short := payload_length c
  have plen : (byteOf c.payload.length).toNat = c.payload.length := by
    rw [byteOf, BitVec.toNat_ofNat]
    omega
  have frame : encodeRequest tag c ++ more = c.code :: tag :: byteOf c.payload.length ::
      (c.payload ++ crc8 (c.code :: tag :: byteOf c.payload.length :: c.payload) :: more) := by
    simp [encodeRequest, withFrameCheck]
  rw [frame]
  apply decodeRequest_command
  · refine ⟨by omega, ?_, ?_⟩
    · rw [plen, List.length_append, List.length_cons]
      omega
    · simp [plen]
  · rw [plen, List.take_left' rfl, commandOf_code]

/-- R100: the payload length that the table gives each code. -/
def payloadLengths : List (Nat × Nat) := [(0x01, 0), (0x02, 0), (0x03, 0), (0x04, 0), (0x05, 0), (0x06, 10), (0x07, 13),
  (0x08, 2), (0x10, 8), (0x11, 0), (0x12, 0), (0x13, 0), (0x14, 0), (0x20, 4), (0x21, 1)]

theorem isSome_lookup (l : List (Nat × Nat)) (n : Nat) : (l.lookup n).isSome = (l.map Prod.fst).contains n := by
  induction l with
  | nil => rfl
  | cons p rest ih =>
    obtain ⟨a, b⟩ := p
    rw [List.lookup_cons, List.map_cons, List.contains_cons, ← ih]
    cases n == a <;> rfl

theorem knownCode_eq (code : Byte) : knownCode code = (payloadLengths.lookup code.toNat).isSome :=
  (isSome_lookup payloadLengths code.toNat).symm

/-- No command has a code outside the table. -/
theorem commandOf_unknown {code : Byte} (unknown : payloadLengths.lookup code.toNat = none) (payload : List Byte) :
    commandOf code payload = none := by
  rw [List.lookup_eq_none_iff] at unknown
  simp only [payloadLengths, List.forall_mem_cons, bne_iff_ne] at unknown
  obtain ⟨h1, h2, h3, h4, h5, h6, h7, h8, h9, h10, h11, h12, h13, h14, h15, -⟩ := unknown
  delta commandOf commandOf.match_1
  rw [dif_neg h1, dif_neg h2, dif_neg h3, dif_neg h4, dif_neg h5, dif_neg h6, dif_neg h7, dif_neg h8, dif_neg h9,
    dif_neg h10, dif_neg h11, dif_neg h12, dif_neg h13, dif_neg h14, dif_neg h15]

/-- The codes of the commands that take no operands. -/
def bareCodes : List Byte := [0x01, 0x02, 0x03, 0x04, 0x05, 0x11, 0x12, 0x13, 0x14]

section payloads

variable {payload : List Byte} {c : ServiceCommand}

theorem payload_of_bare {code : Byte} (bare : code ∈ bareCodes) (eq : commandOf code payload = some c) :
    payload.length = 0 := by
  cases payload with
  | nil => rfl
  | cons b rest =>
    simp only [bareCodes, List.mem_cons, List.not_mem_nil, or_false] at bare
    rcases bare with rfl | rfl | rfl | rfl | rfl | rfl | rfl | rfl | rfl
    all_goals cases eq

theorem payload_of_setTuning (eq : commandOf 0x06 payload = some c) : payload.length = 10 := by
  iterate 10
    rcases payload with _ | ⟨_, payload⟩
    · cases eq
  cases payload with
  | nil => rfl
  | cons => cases eq

theorem payload_of_stageRegion (eq : commandOf 0x07 payload = some c) : payload.length = 13 := by
  iterate 13
    rcases payload with _ | ⟨_, payload⟩
    · cases eq
  cases payload with
  | nil => rfl
  | cons => cases eq

theorem payload_of_getRegion (eq : commandOf 0x08 payload = some c) : payload.length = 2 := by
  iterate 2
    rcases payload with _ | ⟨_, payload⟩
    · cases eq
  cases payload with
  | nil => rfl
  | cons => cases eq

theorem payload_of_format (eq : commandOf 0x10 payload = some c) : payload.length = 8 := by
  iterate 8
    rcases payload with _ | ⟨_, payload⟩
    · cases eq
  cases payload with
  | nil => rfl
  | cons => cases eq

theorem payload_of_peekRecord (eq : commandOf 0x20 payload = some c) : payload.length = 4 := by
  iterate 4
    rcases payload with _ | ⟨_, payload⟩
    · cases eq
  cases payload with
  | nil => rfl
  | cons => cases eq

theorem payload_of_clearAttention (eq : commandOf 0x21 payload = some c) : payload.length = 1 := by
  rcases payload with _ | ⟨_, payload⟩
  · cases eq
  cases payload with
  | nil => rfl
  | cons => cases eq

/-- R100: a command's payload has the length that the table gives its code. -/
theorem payloadLengths_of_commandOf {code : Byte} (eq : commandOf code payload = some c) :
    payloadLengths.lookup code.toNat = some payload.length := by
  have named (n : Nat) (lt : n < 256) (at_n : code.toNat = n) : code = BitVec.ofNat 8 n :=
    BitVec.eq_of_toNat_eq (by rw [at_n, BitVec.toNat_ofNat, Nat.mod_eq_of_lt lt])
  cases known : payloadLengths.lookup code.toNat with
  | none => rw [commandOf_unknown known] at eq; cases eq
  | some k =>
    have listed : (code.toNat, k) ∈ payloadLengths := by
      obtain ⟨before, behind, split, -⟩ := List.lookup_eq_some_iff.1 known
      simp [split]
    simp only [payloadLengths, List.mem_cons, Prod.mk.injEq, List.not_mem_nil, or_false] at listed
    rcases listed with ⟨n, rfl⟩ | ⟨n, rfl⟩ | ⟨n, rfl⟩ | ⟨n, rfl⟩ | ⟨n, rfl⟩ | ⟨n, rfl⟩ | ⟨n, rfl⟩ | ⟨n, rfl⟩ |
      ⟨n, rfl⟩ | ⟨n, rfl⟩ | ⟨n, rfl⟩ | ⟨n, rfl⟩ | ⟨n, rfl⟩ | ⟨n, rfl⟩ | ⟨n, rfl⟩
    case inr.inr.inr.inr.inr.inl => rw [payload_of_setTuning (named _ (by norm_num) n ▸ eq)]
    case inr.inr.inr.inr.inr.inr.inl => rw [payload_of_stageRegion (named _ (by norm_num) n ▸ eq)]
    case inr.inr.inr.inr.inr.inr.inr.inl => rw [payload_of_getRegion (named _ (by norm_num) n ▸ eq)]
    case inr.inr.inr.inr.inr.inr.inr.inr.inl => rw [payload_of_format (named _ (by norm_num) n ▸ eq)]
    case inr.inr.inr.inr.inr.inr.inr.inr.inr.inr.inr.inr.inr.inl =>
      rw [payload_of_peekRecord (named _ (by norm_num) n ▸ eq)]
    case inr.inr.inr.inr.inr.inr.inr.inr.inr.inr.inr.inr.inr.inr =>
      rw [payload_of_clearAttention (named _ (by norm_num) n ▸ eq)]
    all_goals rw [payload_of_bare (by rw [named _ (by norm_num) n]; decide) eq]

end payloads

/-- R99: the same tests on the bytes collected in a period. -/
def FrameStands (rx : List Byte) : Prop :=
  3 ≤ rx.length ∧ (rx.getD 2 0).toNat ≤ 24 ∧ 4 + (rx.getD 2 0).toNat ≤ rx.length ∧
    rx[3 + (rx.getD 2 0).toNat]? = some (crc8 (rx.take (3 + (rx.getD 2 0).toNat)))

theorem frameStands_iff (code tag plen : Byte) (rest : List Byte) :
    FrameStands (code :: tag :: plen :: rest) ↔ FrameChecks code tag plen rest := by
  have third : 3 + plen.toNat = plen.toNat + 1 + 1 + 1 := by omega
  simp only [FrameStands, FrameChecks, List.getD_cons_succ, List.getD_cons_zero, third, List.getElem?_cons_succ,
    List.take_succ_cons, List.length_cons]
  exact ⟨fun ⟨_, short, long, check⟩ => ⟨short, by omega, check⟩,
    fun ⟨short, long, check⟩ => ⟨by omega, short, by omega, check⟩⟩

theorem decodeRequest_of_not_stands {rx : List Byte} (fails : ¬FrameStands rx) :
    decodeRequest rx = .malformed (rx.getD 1 0) :=
  match rx, fails with
  | [], _ => rfl
  | [_], _ => rfl
  | [_, _], _ => rfl
  | _ :: _ :: _ :: _, fails => decodeRequest_malformed (mt (frameStands_iff _ _ _ _).2 fails)

/-- R181: a well formed frame whose payload length is not its code's is a command of none, and is of a known code where
the table gives one. -/
theorem decodeRequest_of_stands {rx : List Byte} (stands : FrameStands rx)
    (misfit : payloadLengths.lookup (rx.getD 0 0).toNat ≠ some (rx.getD 2 0).toNat) :
    decodeRequest rx =
      if knownCode (rx.getD 0 0) then .badLength (rx.getD 1 0) else .unknown (rx.getD 1 0) :=
  match rx, stands, misfit with
  | [], ⟨long, _⟩, _ | [_], ⟨long, _⟩, _ | [_, _], ⟨long, _⟩, _ => absurd long (by simp)
  | code :: tag :: plen :: rest, stands, misfit => by
    have checks := (frameStands_iff _ _ _ _).1 stands
    apply decodeRequest_no_command checks
    obtain ⟨-, long, -⟩ := checks
    cases eq : commandOf code (rest.take plen.toNat) with
    | none => rfl
    | some c =>
      have fits := payloadLengths_of_commandOf eq
      rw [List.length_take_of_le (by omega)] at fits
      exact absurd fits misfit

theorem decodeRequest_unknown {rx : List Byte} (stands : FrameStands rx)
    (unknown : payloadLengths.lookup (rx.getD 0 0).toNat = none) : decodeRequest rx = .unknown (rx.getD 1 0) := by
  rw [decodeRequest_of_stands stands (by rw [unknown]; nofun), knownCode_eq, unknown]
  rfl

theorem decodeRequest_badLength {rx : List Byte} (stands : FrameStands rx) {k : Nat}
    (known : payloadLengths.lookup (rx.getD 0 0).toNat = some k) (misfit : k ≠ (rx.getD 2 0).toNat) :
    decodeRequest rx = .badLength (rx.getD 1 0) := by
  rw [decodeRequest_of_stands stands (by rw [known]; exact fun fits => misfit (Option.some.inj fits)), knownCode_eq,
    known]
  rfl

/-! ### Request periods (R180, R181) -/

section period

variable {s : State} {bytes : List Byte}

theorem exec_requestFrame (out : s.inReset = false) (period : List Byte) :
    exec (.requestFrame period) s = .next (s.servicePeriod period) := running_next _ _ out

/-- R181, check 1. -/
theorem requestPeriod_pending (pending : s.service.response.result = .pending) :
    s.requestPeriod bytes = (s.collect bytes (1 + bytes.length)).bump .serviceDropped := if_pos pending

theorem requestPeriod_decided (idle : s.service.response.result ≠ .pending) {v : FrameVerdict}
    (verdict : decodeRequest (bytes.take 28) = v) :
    s.requestPeriod bytes = (s.collect bytes (1 + bytes.length)).decideFrame v :=
  verdict ▸ if_neg idle

/-- A request period with a command's frame is the command. -/
theorem requestPeriod_encodeRequest (s : State) (tag : Byte) (c : ServiceCommand) :
    s.requestPeriod (encodeRequest tag c) = s.serviceRequest tag c := by
  have decoded : decodeRequest ((encodeRequest tag c).take 28) = .command tag c := by
    rw [List.take_of_length_le (encodeRequest_length tag c), ← List.append_nil (encodeRequest tag c),
      decodeRequest_encodeRequest]
  by_cases pending : s.service.response.result = .pending
  · rw [requestPeriod_pending pending]
    exact (if_pos pending).symm
  · rw [requestPeriod_decided pending decoded]
    exact (if_neg pending).symm

end period

/-! ### What a rule leaves of the service port -/

/-- The attention causes are all that changes in the service port. -/
def SameButCauses (s t : State) : Prop := t.service = { s.service with causes := t.service.causes }

namespace SameButCauses

variable {s t u : State}

theorem of_eq (same : t.service = s.service) : SameButCauses s t := by
  unfold SameButCauses
  rw [same]

theorem trans (first : SameButCauses s t) (second : SameButCauses t u) : SameButCauses s u := by
  unfold SameButCauses at *
  rw [second, first]

theorem setCause (s : State) (c : Cause) : SameButCauses s (s.setCause c) := rfl

theorem endOp (s : State) (outcome : OpOutcome) : SameButCauses s (s.endOp outcome) := by
  unfold State.endOp
  split
  · rfl
  · rfl

theorem sealTest (s : State) : SameButCauses s s.sealTest := of_eq (by rw [sealTest_shape])

theorem warnTest (s : State) : SameButCauses s s.warnTest := by
  obtain same | ⟨-, -, -, warned⟩ := warnTest_cases s
  · rw [same]; rfl
  · rw [warned]; rfl

theorem thresholdTest (s : State) (old : Nat) : SameButCauses s (s.thresholdTest old) := by
  unfold State.thresholdTest
  split
  · rfl
  · exact sealTest s

theorem settingTest (s : State) (old : Option Nat) : SameButCauses s (s.settingTest old) := by
  unfold State.settingTest
  split
  · rfl
  · exact warnTest s

theorem enterSweepWait (s : State) : SameButCauses s s.enterSweepWait := of_eq (by rw [enterSweepWait_shape])

theorem drainTest (s : State) : SameButCauses s s.drainTest := by
  unfold State.drainTest
  split
  · exact enterSweepWait _
  · rfl

theorem freezeTest (s : State) : SameButCauses s s.freezeTest := by
  unfold State.freezeTest
  split
  · have sealed : SameButCauses s ((s.withPhase .drain .rest).withDrain true).sealTest := sealTest _
    exact sealed.trans (drainTest _)
  · rfl

theorem chargeFate (s : State) (e : Entry) (f : Fate) : SameButCauses s (s.chargeFate e f) := by
  cases f with
  | tableDiscard =>
    rw [State.chargeFate, report_recorded _ _ (by simp [State.tableDiscardReport]) (by simp [State.tableDiscardReport])]
    rfl
  | _ => rfl

theorem resolveQueue (s : State) : SameButCauses s s.resolveQueue := by
  have charged (l : List Entry) (t : State) :
      SameButCauses t (l.foldl (fun acc e => acc.chargeFate e (s.fateOf e)) t) := by
    induction l generalizing t with
    | nil => rfl
    | cons e rest ih => exact (chargeFate t e _).trans (ih _)
  exact charged _ _

theorem resolveTest (s : State) : SameButCauses s s.resolveTest := by
  have trimmed : SameButCauses s s.trimTest := by
    unfold State.trimTest
    split <;> rfl
  refine trimmed.trans ?_
  unfold State.resolveTest State.resolveEndTest
  split
  · split
    · rfl
    · obtain ⟨-, eq⟩ | ⟨-, eq⟩ := enterWalk_cases s.trimTest
      · rw [eq]; exact enterSweepWait _
      · rw [eq]; rfl
  · rfl

theorem resolveClassifier (s : State) : SameButCauses s s.resolveClassifier := by
  unfold State.resolveClassifier
  split <;> rfl

theorem quiesceTest (s : State) : SameButCauses s s.quiesceTest := by
  unfold State.quiesceTest
  split
  · rfl
  · have resolved : SameButCauses s (s.withPhase .resolve .rest).resolveQueue := resolveQueue _
    exact (resolved.trans (resolveClassifier _)).trans (resolveTest _)

theorem resumeTest (s : State) : SameButCauses s s.resumeTest := by
  unfold State.resumeTest
  split
  · rfl
  · split
    · exact endOp _ _
    · split <;> exact endOp _ _

theorem resumeItems (s : State) : SameButCauses s s.resumeFlushes.resumeReads := by
  have flushes : SameButCauses s s.resumeFlushes := by
    unfold State.resumeFlushes
    split <;> rfl
  refine flushes.trans ?_
  unfold State.resumeReads
  split <;> rfl

end SameButCauses

/-- The period's own record: the bytes collected and those shifted out. -/
def SamePeriod (s t : State) : Prop := t.service.rxFrame = s.service.rxFrame ∧ t.service.sdo = s.service.sdo

theorem SamePeriod.trans {s t u : State} (first : SamePeriod s t) (second : SamePeriod t u) : SamePeriod s u :=
  ⟨second.1.trans first.1, second.2.trans first.2⟩

theorem SameButCauses.samePeriod {s t : State} (same : SameButCauses s t) : SamePeriod s t := by
  unfold SameButCauses at same
  rw [SamePeriod, same]
  exact ⟨rfl, rfl⟩

theorem getRegionRule_samePeriod (s : State) (copy index : Byte) : SamePeriod s (s.getRegionRule copy index).state := by
  rw [getRegionRule_state]
  exact ⟨rfl, rfl⟩

theorem setTuningRule_samePeriod (s : State) (threshold : Byte) (coalesce discard : BitVec 16) (warning : Word)
    (mask : Byte) : SamePeriod s (s.setTuningRule threshold coalesce discard warning mask).state := by
  unfold State.setTuningRule
  split
  · have tuned : SamePeriod s (s.tuned threshold coalesce discard warning mask) := ⟨rfl, rfl⟩
    exact tuned.trans ((SameButCauses.thresholdTest _ _).trans (SameButCauses.settingTest _ _)).samePeriod
  · exact ⟨rfl, rfl⟩

theorem stageRegionRule_samePeriod (s : State) (index : Byte) (e : StoredEntry) :
    SamePeriod s (s.stageRegionRule index e).state := by
  unfold State.stageRegionRule
  split
  · exact ⟨rfl, rfl⟩
  · split
    · exact ⟨rfl, rfl⟩
    · split <;> exact ⟨rfl, rfl⟩

theorem checkpointRule_samePeriod (s : State) : SamePeriod s s.checkpointRule.state := by
  unfold State.checkpointRule
  split
  · exact ⟨rfl, rfl⟩
  · split
    · exact (SameButCauses.freezeTest _).samePeriod
    · exact ⟨rfl, rfl⟩

theorem adoptRule_samePeriod (s : State) : SamePeriod s s.adoptRule.state := by
  unfold State.adoptRule
  split
  · exact ⟨rfl, rfl⟩
  · split
    · exact (SameButCauses.enterSweepWait _).samePeriod
    · exact ⟨rfl, rfl⟩

theorem formatRule_samePeriod (s : State) (base size : Word) : SamePeriod s (s.formatRule base size).state := by
  unfold State.formatRule
  split
  · exact ⟨rfl, rfl⟩
  · dsimp only
    split
    · split
      · exact (SameButCauses.freezeTest _).samePeriod
      · exact ⟨rfl, rfl⟩
    · exact ⟨rfl, rfl⟩

theorem rollbackRule_samePeriod (s : State) : SamePeriod s s.rollbackRule.state := by
  unfold State.rollbackRule
  split
  · exact ⟨rfl, rfl⟩
  · have entered : SamePeriod s ((s.admitted .rollback none).frozenIn .quiesce).freeAllSlots := ⟨rfl, rfl⟩
    exact entered.trans (SameButCauses.quiesceTest _).samePeriod

theorem resumeRule_samePeriod (s : State) : SamePeriod s s.resumeRule.state := by
  unfold State.resumeRule
  split
  · exact ⟨rfl, rfl⟩
  · exact ((SameButCauses.resumeItems _).trans (SameButCauses.resumeTest _)).samePeriod

theorem peekRecordRule_samePeriod (s : State) (slot : Word) : SamePeriod s (s.peekRecordRule slot).state := by
  unfold State.peekRecordRule
  split
  · exact ⟨rfl, rfl⟩
  · split
    · exact ⟨rfl, rfl⟩
    · dsimp only
      unfold ServicePort.withPeek
      split <;> exact ⟨rfl, rfl⟩

/-- R180, R181: no rule touches the record of the period that carried it. -/
theorem ruleOf_samePeriod (s : State) (c : ServiceCommand) : SamePeriod s (s.ruleOf c).state := by
  cases c with
  | setTuning => exact setTuningRule_samePeriod s _ _ _ _ _
  | stageRegion => exact stageRegionRule_samePeriod s _ _
  | getRegion => exact getRegionRule_samePeriod s _ _
  | format => exact formatRule_samePeriod s _ _
  | checkpoint => exact checkpointRule_samePeriod s
  | adopt => exact adoptRule_samePeriod s
  | rollback => exact rollbackRule_samePeriod s
  | resume => exact resumeRule_samePeriod s
  | peekRecord => exact peekRecordRule_samePeriod s _
  | _ => exact ⟨rfl, rfl⟩

theorem execute_samePeriod (s : State) (c : ServiceCommand) : SamePeriod s (s.execute c).state := by
  unfold State.execute
  split
  · exact ⟨rfl, rfl⟩
  · exact ruleOf_samePeriod s c

/-! ### Payloads (R101) -/

theorem flagBits_or : ∀ a b c d : Bool,
    let flags := flagBit 0 a ||| flagBit 1 b ||| flagBit 2 c ||| flagBit 3 d
    flags.getLsbD 0 = a ∧ flags.getLsbD 1 = b ∧ flags.getLsbD 2 = c ∧ flags.getLsbD 3 = d ∧ flags.toNat < 16 := by
  decide

theorem mapBits_or (condition : MapCondition) : ∀ index sweeping : Bool,
    let maps := flagBit 0 index ||| flagBit 1 sweeping ||| byteOf (4 * condition.inactiveCode)
    maps.getLsbD 0 = index ∧ maps.getLsbD 1 = sweeping ∧ (maps >>> 2).toNat = condition.inactiveCode := by
  cases condition with
  | clean => decide
  | sweeping => decide
  | dirty => decide
  | live => decide

theorem countersPayload_counter (s : State) (k : Counter) :
    (s.countersPayload.drop (4 * k.index.val)).take 4 = wordBytes (s.counter k) :=
  take_drop_wordsBytes _ _ _ (by simp [State.counter])

theorem regionEntry_bytes (e : RegionEntry) : e.bytes =
    wordBytes (wordOfNat e.base) ++ wordBytes (wordOfNat e.length) ++
      [byteOf e.mode.code, if e.elide then 1 else 0, 0, 0] := by
  rw [← wordBytes_wordOf]
  simp [RegionEntry.bytes, RegionEntry.words, wordsBytes]

section regions

variable (s : State) {index : Byte}

theorem getRegionRule_active (lt : index.toNat < 8) :
    s.getRegionRule 0 index = ⟨s, .ok, (s.regions.active[index.toNat]).bytes⟩ := by
  have entry : s.regions.active.toList[index.toNat]? = some s.regions.active[index.toNat] := by simp [lt]
  simp only [State.getRegionRule, State.tableCopy, if_true, entry]

theorem getRegionRule_staged (lt : index.toNat < 8) :
    s.getRegionRule 1 index = ⟨s, .ok, (s.regions.staged[index.toNat]).bytes⟩ := by
  have entry : s.regions.staged.toList[index.toNat]? = some s.regions.staged[index.toNat] := by simp [lt]
  rw [State.getRegionRule, show s.tableCopy 1 = some s.regions.staged from rfl]
  simp only [entry]

theorem getRegionRule_outside {copy : Byte} (outside : 8 ≤ index.toNat ∨ 2 ≤ copy.toNat) :
    s.getRegionRule copy index = s.refuse .badArgument := by
  unfold State.getRegionRule
  cases named : s.tableCopy copy with
  | none => rfl
  | some t =>
    have high : 8 ≤ index.toNat := by
      refine outside.resolve_right fun other => ?_
      have notActive : copy ≠ 0 := by rintro rfl; exact absurd other (by decide)
      have notStaged : copy ≠ 1 := by rintro rfl; exact absurd other (by decide)
      rw [State.tableCopy, if_neg notActive, if_neg notStaged] at named
      cases named
    have missing : t.toList[index.toNat]? = none := List.getElem?_eq_none (by simpa using high)
    simp only [missing]

end regions

/-- R182: the bytes of a fetch, by their place. -/
theorem fetched_get (frame : List Byte) {clocked i : Nat} (lt : i < clocked) :
    ((frame ++ List.replicate clocked 0).take clocked)[i]? = some (frame.getD i 0) := by
  rw [List.getElem?_take_of_lt lt, List.getD_eq_getElem?_getD]
  by_cases inFrame : i < frame.length
  · rw [List.getElem?_append_left inFrame, List.getElem?_eq_getElem inFrame, Option.getD_some]
  · rw [List.getElem?_append_right (by omega), List.getElem?_eq_none (by omega : frame.length ≤ i), Option.getD_none]
    rw [List.getElem?_replicate, if_pos (by omega)]

end Sys2Proof.Machine

namespace Sys2Proof.Proofs

open Sys2Proof Sys2Proof.Machine

/-- Settles O14: the first check of a request period, and the commands that STARTING refuses. -/
theorem commandsTurnedAway : Obligations.CommandsTurnedAway := by
  unfold Obligations.CommandsTurnedAway
  intro tag c s out
  rw [exec_toInstr tag c s out, serviceRequest_eq]
  refine ⟨fun pending => by rw [if_pos pending]; rfl, fun idle starting notStatus notFault notCounters => ?_⟩
  have notInStart : inStart c = false := by
    cases c with
    | getStatus => exact absurd rfl notStatus
    | getFault => exact absurd rfl notFault
    | getCounters => exact absurd rfl notCounters
    | _ => rfl
  rw [if_neg idle, State.execute, if_pos ⟨starting, notInStart⟩, refuse_answer]

/-- Settles O15: the 60 bytes of the payload, field by field at their offsets. -/
theorem statusReading : Obligations.StatusReading := by
  unfold Obligations.StatusReading
  intro tag s out idle
  obtain ⟨clear, hold, known, unknown, flags⟩ :=
    flagBits_or s.ctl.clearPending s.faults.hold s.ctl.geometry.isSome s.ctl.countUnknown
  obtain ⟨index, sweeping, inactive⟩ :=
    mapBits_or s.maps.inactive.condition s.maps.activeIndex (s.maps.active.condition == .sweeping)
  refine ⟨s.statusPayload, exec_reading s tag .getStatus out idle rfl, rfl, rfl,
    ⟨s.statusFlags, rfl, clear, hold, known, unknown, flags⟩, rfl, rfl, ?empty, ?filled, rfl,
    ⟨s.statusMaps, rfl, index, sweeping.trans (by rw [beq_eq_decide]), inactive⟩, rfl, rfl, ?known, ?unknown,
    rfl, rfl, rfl, rfl, rfl, rfl, rfl, rfl, rfl, rfl, ?slots, rfl, rfl⟩
  case empty =>
    intro empty
    rw [State.statusPayload, State.statusHead, empty]
    exact ⟨rfl, rfl⟩
  case filled =>
    intro l filled
    rw [State.statusPayload, State.statusHead, State.statusNumbers, filled]
    exact ⟨rfl, rfl, rfl⟩
  case known =>
    intro g eq
    rw [State.statusPayload, State.statusNumbers, State.capacity, eq]
    exact ⟨rfl, rfl, rfl⟩
  case unknown =>
    intro eq
    have level : s.warnLevel = 0 := by rw [State.warnLevel, eq]
    have shown : (s.statusPayload.drop 40).take 4 = wordBytes (wordOfNat s.warnLevel) := rfl
    refine ⟨?_, shown.trans (level ▸ rfl)⟩
    rw [State.statusPayload, State.statusNumbers, State.capacity, eq]
    rfl
  case slots =>
    exact fun i => match i with
      | 0 => rfl
      | 1 => rfl
      | 2 => rfl
      | 3 => rfl

/-- Settles O16: the fault payload of an empty and of a filled record, and the counters one after the other. -/
theorem faultAndCountersReading : Obligations.FaultAndCountersReading := by
  unfold Obligations.FaultAndCountersReading
  intro tag s out idle
  have fault : exec (.getFault tag) s = .next (s.replied tag .getFault .ok s.faultPayload) :=
    exec_reading s tag .getFault out idle rfl
  refine ⟨fun empty => ?_, fun r filled => ?_, s.countersPayload, exec_reading s tag .getCounters out idle rfl, ?_,
    countersPayload_counter s⟩
  · rw [fault, State.faultPayload, empty]
  · obtain ⟨granule, master, epoch, slotOrSeq, flags⟩ :=
      flagBits_or r.granule.isSome r.master.isSome r.epoch.isSome r.slotOrSeq.isSome
    refine ⟨r.bytes ++ halfBytes (BitVec.ofNat 16 s.faults.laterFaults), ?_, rfl, rfl, rfl,
      ⟨r.presence, rfl, granule, master, epoch, slotOrSeq, flags⟩, rfl, rfl, rfl, rfl, rfl⟩
    rw [fault, State.faultPayload, filled]
  · rw [State.countersPayload, wordsBytes_length, Vector.length_toList]

/-- Settles O21: the stored bytes of the entry that copy and index name. -/
theorem regionRead : Obligations.RegionRead := by
  unfold Obligations.RegionRead
  intro tag copy index s served
  have exec_rule := exec_served s tag (.getRegion copy index) served
  refine ⟨fun lt => ⟨fun active => ⟨_, ?_, regionEntry_bytes _⟩, fun staged => ⟨_, ?_, regionEntry_bytes _⟩⟩,
    fun outside => ?_⟩
  · subst active
    exact exec_rule.trans (by rw [State.ruleOf, getRegionRule_active _ lt]; rfl)
  · subst staged
    exact exec_rule.trans (by rw [State.ruleOf, getRegionRule_staged _ lt]; rfl)
  · exact exec_rule.trans (by rw [State.ruleOf, getRegionRule_outside _ outside, refuse_answer])

/-- Settles O28: the response frame with zeros behind it, as far as the period is clocked. -/
theorem responseFetched : Obligations.ResponseFetched := by
  unfold Obligations.ResponseFetched
  intro clocked s out r head
  refine ⟨(r.frame ++ List.replicate clocked 0).take clocked, ?_, ?_, fun i lt => fetched_get _ lt⟩
  · exact running_next s (s.responseFetch clocked) out
  rw [List.length_take, List.length_append, List.length_replicate]
  omega

/-- Settles O29: the frame decodes to its command, whose rule leaves the record of the period alone. -/
theorem requestFrameIsCommand : Obligations.RequestFrameIsCommand := by
  unfold Obligations.RequestFrameIsCommand
  intro tag c s
  have period : s.servicePeriod (0x01 :: encodeRequest tag c) = s.serviceRequest tag c :=
    requestPeriod_encodeRequest s tag c
  cases reset : s.inReset with
  | true =>
    have held : exec (c.toInstr tag) s = .next s := by
      cases c <;> exact running_inReset _ _ reset
    exact ⟨s, running_inReset _ _ reset, held, fun _ => rfl, nofun⟩
  | false =>
    refine ⟨s.serviceRequest tag c, ?_, exec_toInstr tag c s reset, nofun, fun _ => ?_⟩
    · rw [exec_requestFrame reset, period]
    · rw [serviceRequest_eq]
      by_cases pending : s.service.response.result = .pending
      · rw [if_pos pending]
        exact ⟨rfl, rfl, fun idle => absurd pending idle, fun _ => rfl⟩
      · rw [if_neg pending]
        obtain ⟨frame, shifted⟩ := execute_samePeriod (s.heard tag c) c
        exact ⟨frame, shifted, fun _ => rfl, fun other => absurd other pending⟩

/-- Settles O30: the payload of a command gives the command back, and the check code stands behind it. -/
theorem decodeEncodeRequest : Obligations.DecodeEncodeRequest := decodeRequest_encodeRequest

/-- Settles O31: the verdict on the bytes collected decides the answer, and the type byte the period. -/
theorem framesRefused : Obligations.FramesRefused := by
  unfold Obligations.FramesRefused
  intro bytes s out rx n wellFormed lengths collected answered
  refine ⟨fun pending => ?_, fun idle => ⟨fun fails => ?_, fun stands unknown => ?_, fun stands k known misfit => ?_⟩,
    fun type notRequest notFetch => ?_, running_next _ _ out, ?_⟩
  · exact (exec_requestFrame out _).trans (congrArg _ (requestPeriod_pending pending))
  · exact (exec_requestFrame out _).trans (congrArg _ (requestPeriod_decided idle (decodeRequest_of_not_stands fails)))
  · exact (exec_requestFrame out _).trans
      (congrArg _ (requestPeriod_decided idle (decodeRequest_unknown stands unknown)))
  · exact (exec_requestFrame out _).trans
      (congrArg _ (requestPeriod_decided idle (decodeRequest_badLength stands known misfit)))
  · rw [exec_requestFrame out, State.servicePeriod, if_neg notRequest, if_neg notFetch]
    rfl
  · exact (exec_requestFrame out _).trans (running_next s (s.responseFetch bytes.length) out).symm

end Sys2Proof.Proofs
end

section
/-! R9, R10, R76, R77, R91, R105, R170, R184, R185, R187 to R189. The service commands that decide at once: the clears,
the tuning values with the seal and the warning they may bring, the staged table, the refusals of the long
operations, and the peeks. -/

namespace Sys2Proof.Machine

open Sys2Proof

/-! ### How a rule answers -/

theorem exec_refused {tag : Byte} {c : ServiceCommand} {s : State} {r : Result} (served : s.servesCommands)
    (rule : (s.heard tag c).ruleOf c = (s.heard tag c).refuse r) :
    exec (c.toInstr tag) s = .next (s.replied tag c r []) := by
  rw [exec_served s tag c served, rule, refuse_answer]

theorem exec_ruled {tag : Byte} {c : ServiceCommand} {s : State} {r : Reply} (served : s.servesCommands)
    (rule : (s.heard tag c).ruleOf c = r) : exec (c.toInstr tag) s = .next (r.answer tag) := by
  rw [exec_served s tag c served, rule]

/-! ### The seal and the warning (R76, R91) -/

/-- R76: bank `b` is the FILLING one, and the seal test seals it. -/
def State.Seals (s : State) (b : Bool) : Prop :=
  s.writer.bankIn .filling = some b ∧ (s.writer.bank (!b)).state = .empty ∧ s.ctl.resolving = false ∧
    s.sealWanted (s.writer.bank b) = true

theorem sealTest_of_seals {s : State} {b : Bool} (seals : s.Seals b) :
    s.sealTest = (s.withWriter (s.writer.sealed b)).bump .flushes := by
  obtain ⟨filling, empty, open_, wanted⟩ := seals
  rw [State.sealTest, filling]
  exact if_pos (by simp [open_, empty, wanted])

theorem sealTest_of_not {s : State} (none : ∀ b, ¬s.Seals b) : s.sealTest = s := by
  obtain same | ⟨b, filling, open_, empty, wanted, -⟩ := sealTest_cases s
  · exact same
  · exact absurd ⟨filling, empty, open_, wanted⟩ (none b)

theorem sealWanted_iff (s : State) (k : Bank) : s.sealWanted k = true ↔
    s.writer.flushThreshold ≤ k.records.length ∨ s.writer.coalesceDemand = true ∨ s.ctl.drain = true ∨
      s.faults.hold = true ∨ k.records.length = 16 := by
  simp [State.sealWanted, State.drainDemand, Config.bankDepth, or_assoc]

theorem resolving_iff (c : EpochController) : c.resolving = true ↔ c.op = some .rollback ∧ c.phase = .resolve := by
  simp [EpochController.resolving, EpochController.rollingBack]

theorem resolving_false_iff (c : EpochController) :
    c.resolving = false ↔ ¬(c.op = some .rollback ∧ c.phase = .resolve) := by
  rw [← resolving_iff, Bool.not_eq_true]

/-- R91: the warning test sets WARN_LEVEL. -/
def State.Warns (s : State) : Prop := s.writer.warnArmed = true ∧ s.warnLevel ≠ 0 ∧ s.warnLevel ≤ s.writer.durable

theorem warnTest_of_warns {s : State} (warns : s.Warns) :
    s.warnTest = (s.withWriter { s.writer with warnArmed := false }).setCause .warnLevel := by
  obtain ⟨armed, level, reached⟩ := warns
  exact if_pos (by simp [armed, level, reached])

theorem warnTest_of_not {s : State} (not : ¬s.Warns) : s.warnTest = s := by
  obtain same | ⟨armed, level, reached, -⟩ := warnTest_cases s
  · exact same
  · exact absurd ⟨armed, level, reached⟩ not

/-! ### Tuning (R185) -/

section tuning

variable {s : State} {threshold : Byte} {coalesce discard : BitVec 16} {warning : Word} {mask : Byte}

theorem tuningInRange_iff : s.tuningInRange threshold coalesce discard warning = true ↔
    1 ≤ threshold.toNat ∧ threshold.toNat ≤ 16 ∧ coalesce.toNat ≤ 1023 ∧ 1 ≤ discard.toNat ∧
      (warning = 0 ∨ (s.ctl.geometry.isSome = true ∧ warning.toNat ≤ s.capacity)) := by
  rw [← warningInRange_iff]
  simp [State.tuningInRange, and_assoc]

theorem setTuningRule_outside (outside : s.tuningInRange threshold coalesce discard warning = false) :
    s.setTuningRule threshold coalesce discard warning mask = s.refuse .badArgument :=
  if_neg (by simp [outside])

theorem thresholdTest_of_seals {old : Nat} {b : Bool} (changed : s.writer.flushThreshold ≠ old) (seals : s.Seals b) :
    s.thresholdTest old = (s.withWriter (s.writer.sealed b)).bump .flushes :=
  (if_neg changed).trans (sealTest_of_seals seals)

theorem thresholdTest_of_not {old : Nat} (not : ∀ b, ¬(s.writer.flushThreshold ≠ old ∧ s.Seals b)) :
    s.thresholdTest old = s := by
  by_cases changed : s.writer.flushThreshold = old
  · exact if_pos changed
  · exact (if_neg changed).trans (sealTest_of_not fun b seals => not b ⟨changed, seals⟩)

theorem settingTest_of_warns {old : Option Nat} (changed : s.writer.warnSetting ≠ old) (warns : s.Warns) :
    s.settingTest old = (s.withWriter { s.writer with warnArmed := false }).setCause .warnLevel :=
  (if_neg changed).trans (warnTest_of_warns warns)

theorem settingTest_of_not {old : Option Nat} (not : ¬(s.writer.warnSetting ≠ old ∧ s.Warns)) :
    s.settingTest old = s := by
  by_cases changed : s.writer.warnSetting = old
  · exact if_pos changed
  · exact (if_neg changed).trans (warnTest_of_not fun warns => not ⟨changed, warns⟩)

/-- R77, R185: what the threshold's test makes of the banks and of FLUSHES. -/
theorem thresholdTest_outcome (s : State) (old : Nat) : ∃ bank0 bank1 last timer demand counters,
    s.thresholdTest old = { s with
      writer := { s.writer with
        bank0 := bank0, bank1 := bank1, lastSealed := last, coalesceTimer := timer, coalesceDemand := demand }
      counters := counters } ∧
    (∀ b : Bool, s.writer.flushThreshold ≠ old ∧ s.Seals b →
      (if b then bank1 else bank0) = ⟨.flushing, (s.writer.bank b).records⟩ ∧
        (if !b then bank1 else bank0) = s.writer.bank (!b) ∧ last = some b ∧ timer = none ∧ demand = false ∧
        counters = s.counters.set 10 (satInc s.counters[10])) ∧
    ((∀ b : Bool, ¬(s.writer.flushThreshold ≠ old ∧ s.Seals b)) →
      bank0 = s.writer.bank0 ∧ bank1 = s.writer.bank1 ∧ last = s.writer.lastSealed ∧
        timer = s.writer.coalesceTimer ∧ demand = s.writer.coalesceDemand ∧ counters = s.counters) := by
  by_cases seals : ∃ b, s.writer.flushThreshold ≠ old ∧ s.Seals b
  · obtain ⟨b, changed, seals⟩ := seals
    refine ⟨(s.writer.sealed b).bank0, (s.writer.sealed b).bank1, some b, none, false,
      s.counters.set 10 (satInc s.counters[10]), ?_, fun other also => ?_, fun never => (never b ⟨changed, seals⟩).elim⟩
    · rw [thresholdTest_of_seals changed seals]
      cases b <;> rfl
    · obtain rfl : b = other := Option.some.inj (seals.1.symm.trans also.2.1)
      refine ⟨?_, ?_, rfl, rfl, rfl, rfl⟩ <;> cases b <;> rfl
  · have never (b : Bool) : ¬(s.writer.flushThreshold ≠ old ∧ s.Seals b) := fun sealing => seals ⟨b, sealing⟩
    exact ⟨_, _, _, _, _, _, thresholdTest_of_not never, fun b sealing => (never b sealing).elim,
      fun _ => ⟨rfl, rfl, rfl, rfl, rfl, rfl⟩⟩

/-- R91, R185: what the setting's test makes of the warning. -/
theorem settingTest_outcome (s : State) (old : Option Nat) : ∃ armed causes,
    s.settingTest old = { s with
      writer := { s.writer with warnArmed := armed }, service := { s.service with causes := causes } } ∧
    (s.writer.warnSetting ≠ old ∧ s.Warns → causes = s.service.causes ||| 0x04 ∧ armed = false) ∧
    (¬(s.writer.warnSetting ≠ old ∧ s.Warns) → causes = s.service.causes ∧ armed = s.writer.warnArmed) := by
  by_cases warns : s.writer.warnSetting ≠ old ∧ s.Warns
  · exact ⟨_, _, settingTest_of_warns warns.1 warns.2, fun _ => ⟨rfl, rfl⟩, fun never => (never warns).elim⟩
  · exact ⟨_, _, settingTest_of_not warns, fun also => (warns also).elim, fun _ => ⟨rfl, rfl⟩⟩

end tuning

/-! ### The staged table (R9, R10) -/

section staging

variable {s : State} {index : Byte} {e : StoredEntry}

theorem RegionMode.ofCode_unknown {n : Nat} (unknown : 2 < n) : RegionMode.ofCode n = none :=
  match n, unknown with
  | _ + 3, _ => rfl

theorem stagedEntry_unknown (unknown : 2 < e.mode.toNat) : s.stagedEntry e = none := by
  rw [State.stagedEntry, RegionMode.ofCode_unknown unknown]

theorem stagedEntry_off (off : e.mode = 0) : s.stagedEntry e = some RegionEntry.unused := by
  rw [State.stagedEntry, off]
  rfl

theorem stagedEntry_journaled (journaled : e.mode = 1) : s.stagedEntry e =
    if s.stagePlaceable ⟨.journaled, e.base.toNat, e.length.toNat, e.elide.getLsbD 0⟩ then
      some ⟨.journaled, e.base.toNat, e.length.toNat, e.elide.getLsbD 0⟩ else none := by
  rw [State.stagedEntry, journaled]
  rfl

theorem stagedEntry_frozen (frozen : e.mode = 2) : s.stagedEntry e =
    if s.stagePlaceable ⟨.frozen, e.base.toNat, e.length.toNat, false⟩ then
      some ⟨.frozen, e.base.toNat, e.length.toNat, false⟩ else none := by
  rw [State.stagedEntry, frozen]
  rfl

/-- R10: an entry that is not OFF and not placeable is refused. -/
theorem stagedEntry_unplaceable (on : e.mode ≠ 0)
    (fails : ∀ m : RegionMode, m ≠ .off → ∀ elide, s.stagePlaceable ⟨m, e.base.toNat, e.length.toNat, elide⟩ = false) :
    s.stagedEntry e = none := by
  have named (n : Nat) (eq : e.mode.toNat = n) : e.mode = BitVec.ofNat 8 n := by
    rw [← eq, BitVec.ofNat_toNat, BitVec.setWidth_eq]
  obtain zero | one | two | unknown : e.mode.toNat = 0 ∨ e.mode.toNat = 1 ∨ e.mode.toNat = 2 ∨ 2 < e.mode.toNat := by
    omega
  · exact absurd (named 0 zero) on
  · rw [stagedEntry_journaled (named 1 one), if_neg (Bool.eq_false_iff.1 (fails .journaled (by decide) _))]
  · rw [stagedEntry_frozen (named 2 two), if_neg (Bool.eq_false_iff.1 (fails .frozen (by decide) _))]
  · exact stagedEntry_unknown unknown

theorem stageRegionRule_busy (busy : s.ctl.op ≠ none) : s.stageRegionRule index e = s.refuse .busy :=
  if_pos (Option.isSome_iff_ne_none.2 busy)

theorem stageRegionRule_placed (idle : s.ctl.op = none) {r : RegionEntry} (entry : s.stagedEntry e = some r)
    (lt : index.toNat < 8) : s.stageRegionRule index e =
      { s with regions := { s.regions with staged := s.regions.staged.set index.toNat r lt } }.done := by
  rw [State.stageRegionRule, if_neg (by simp [idle]), entry]
  exact dif_pos lt

theorem stageRegionRule_refused (idle : s.ctl.op = none) (entry : s.stagedEntry e = none ∨ 8 ≤ index.toNat) :
    s.stageRegionRule index e = s.refuse .badArgument := by
  rw [State.stageRegionRule, if_neg (by simp [idle])]
  cases eq : s.stagedEntry e with
  | none => rfl
  | some r => exact dif_neg (Nat.not_lt.2 (entry.resolve_left (by simp [eq])))

end staging

/-! ### The refusals of the long operations (R105) -/

section refusals

variable {s : State} {kind : OpKind}

/-- R103: the command begins an operation of the kind. -/
def BeginsOp : ServiceCommand → OpKind → Prop
  | .checkpoint, kind => kind = .checkpoint
  | .adopt, kind => kind = .adopt
  | .rollback, kind => kind = .rollback
  | .format _ _, kind => kind = .format
  | .resume, kind => kind = .resume
  | _, _ => False

theorem opRefusal_busy (busy : s.ctl.op ≠ none) : s.opRefusal kind = some .busy :=
  if_pos (Option.isSome_iff_ne_none.2 busy)

theorem opRefusal_powerHold (idle : s.ctl.op = none) (held : s.faults.hold = true) :
    s.opRefusal kind = some .powerHold := by
  rw [State.opRefusal, if_neg (by simp [idle]), if_pos held]

theorem opRefusal_badState (idle : s.ctl.op = none) (unheld : s.faults.hold = false) (state : s.admits kind = false) :
    s.opRefusal kind = some .badState := by
  rw [State.opRefusal, if_neg (by simp [idle]), if_neg (by simp [unheld]), if_pos (by simp [state])]

theorem ruleOf_refused {c : ServiceCommand} (begins : BeginsOp c kind) {r : Result}
    (refused : s.opRefusal kind = some r) : s.ruleOf c = s.refuse r := by
  cases c with
  | checkpoint =>
    obtain rfl := begins
    rw [State.ruleOf, State.checkpointRule, refused]
  | adopt =>
    obtain rfl := begins
    rw [State.ruleOf, State.adoptRule, refused]
  | rollback =>
    obtain rfl := begins
    rw [State.ruleOf, State.rollbackRule, refused]
  | format base size =>
    obtain rfl := begins
    rw [State.ruleOf, State.formatRule, refused]
  | resume =>
    obtain rfl := begins
    rw [State.ruleOf, State.resumeRule, refused]
  | _ => exact begins.elim

theorem admits_checkpoint : s.admits .checkpoint = true ↔ s.ctl.journal = .ready := by simp [State.admits]

theorem admits_adopt : s.admits .adopt = true ↔
    s.ctl.journal = .recoveryPending ∨ (s.ctl.journal = .recoveryFault ∧ s.ctl.clearPending = false) := by
  simp [State.admits]

theorem admits_rollback : s.admits .rollback = true ↔
    s.ctl.journal = .ready ∨ s.ctl.journal = .halted ∨ s.ctl.journal = .recoveryPending ∨
      (s.ctl.journal = .recoveryFault ∧ s.ctl.clearPending = false) := by
  simp [State.admits, or_assoc]

theorem admits_format : s.admits .format = true ↔
    s.ctl.journal = .unformatted ∨ s.ctl.journal = .ready ∨
      (s.ctl.journal = .recoveryFault ∧ s.ctl.clearPending = true) := by
  simp [State.admits, or_assoc]

theorem admits_resume : s.admits .resume = true ↔ s.ctl.journal = .halted := by simp [State.admits]

theorem stagedLegal_iff (s : State) (geometry : Option Geometry) :
    s.stagedLegal geometry = true ↔ ∃ g, geometry = some g ∧ s.regions.staged.legal g = true := by
  cases geometry <;> simp [State.stagedLegal]

theorem stagedLegal_false {geometry : Option Geometry}
    (illegal : ∀ g, geometry = some g → s.regions.staged.legal g = false) : s.stagedLegal geometry = false := by
  rw [← Bool.not_eq_true, stagedLegal_iff]
  rintro ⟨g, known, legal⟩
  rw [illegal g known] at legal
  cases legal

theorem checkpointRule_tableInvalid (opens : s.opRefusal .checkpoint = none)
    (illegal : s.stagedLegal s.ctl.geometry = false) : s.checkpointRule = s.refuse .tableInvalid := by
  rw [State.checkpointRule, opens]
  exact if_neg (by simp [illegal])

theorem adoptRule_tableInvalid (opens : s.opRefusal .adopt = none)
    (illegal : s.stagedLegal s.ctl.geometry = false) : s.adoptRule = s.refuse .tableInvalid := by
  rw [State.adoptRule, opens]
  exact if_neg (by simp [illegal])

theorem formatRule_badArgument {base size : Word} (opens : s.opRefusal .format = none)
    (illegal : Geometry.legal ⟨base.toNat, size.toNat⟩ = false) :
    s.formatRule base size = s.refuse .badArgument := by
  rw [State.formatRule, opens]
  exact if_neg (by simp [illegal])

theorem formatRule_tableInvalid {base size : Word} (opens : s.opRefusal .format = none)
    (legal : Geometry.legal ⟨base.toNat, size.toNat⟩ = true)
    (illegal : s.regions.staged.legal ⟨base.toNat, size.toNat⟩ = false) :
    s.formatRule base size = s.refuse .tableInvalid := by
  rw [State.formatRule, opens]
  exact (if_pos legal).trans (if_neg (by simp [State.stagedLegal, illegal]))

end refusals

/-! ### Peeks (R187, R188) -/

section peeks

variable {s : State}

theorem peekRecordRule_accepted {slot : Word} {g : Geometry} (known : s.ctl.geometry = some g)
    (formatted : s.ctl.journal ≠ .unformatted) (inside : slot.toNat < g.size / 48) :
    s.peekRecordRule slot = ⟨{ s with service := s.service.withPeek ⟨slot.toNat, g.base + 48 * slot.toNat⟩ },
      .pending, []⟩ := by
  have capacity : s.capacity = g.size / 48 := by
    rw [State.capacity, known]
    rfl
  have base : s.areaBase = g.base := by
    rw [State.areaBase, known]
    rfl
  rw [State.peekRecordRule, if_neg formatted, if_neg (by omega), base]
  rfl

theorem withPeek_first {p : ServicePort} (none : p.peekRead = none) (k : Peek) :
    p.withPeek k = { p with peekRead := some k } := if_neg (by simp [none])

theorem withPeek_behind {p : ServicePort} (some : p.peekRead ≠ none) (k : Peek) :
    p.withPeek k = { p with peekWaiting := p.peekWaiting ++ [k] } := if_pos (Option.isSome_iff_ne_none.2 some)

theorem exec_peekReadDone {a : Access} {k : Peek} (out : s.inReset = false)
    (flying : s.port = some ⟨.servicePort, a⟩) (read : s.service.peekRead = some k) (answer : ReadAnswer) :
    exec (.peekReadDone answer) s =
      .next ((s.answered answer.isError).peekAnswered k (s.answerWords a answer)) := by
  refine (running_next s _ out).trans ?_
  rw [State.peekReadDone, (inFlightFor_eq_some _ _ _).2 flying, read]

theorem peekAnswered_awaited {k : Peek} {words : Option (List Word)} (pending : s.service.response.result = .pending)
    (alone : s.service.peekWaiting = []) : s.peekAnswered k words = { s with service := { s.service with
      response := s.peekResponse k words, peekRead := none } } := by
  have awaits : s.service.awaitsRead = true := by simp [ServicePort.awaitsRead, pending, alone]
  have first : s.service.peekWaiting.head? = none := by rw [alone]; rfl
  have rest : s.service.peekWaiting.tail = s.service.peekWaiting := by rw [alone]; rfl
  rw [State.peekAnswered, if_pos awaits, first, rest]

theorem peekAnswered_dropped {k : Peek} {words : Option (List Word)}
    (not : s.service.response.result ≠ .pending ∨ s.service.peekWaiting ≠ []) :
    s.peekAnswered k words = { s with service := { s.service with
      peekRead := s.service.peekWaiting.head?, peekWaiting := s.service.peekWaiting.tail } } := by
  have unawaited : ¬s.service.awaitsRead = true := by
    simp only [ServicePort.awaitsRead, Bool.and_eq_true, beq_iff_eq, List.isEmpty_iff]
    rintro ⟨pending, alone⟩
    exact not.elim (absurd pending) (absurd alone)
  rw [State.peekAnswered, if_neg unawaited]

end peeks

end Sys2Proof.Machine

namespace Sys2Proof.Proofs

open Sys2Proof Sys2Proof.Machine

/-- Settles O17: each clear is its rule, with no refusal. -/
theorem clearCommands : Obligations.ClearCommands := by
  unfold Obligations.ClearCommands
  intro tag mask s served
  refine ⟨exec_served s tag .clearFault served, ⟨_, exec_served s tag .clearCounters served, fun k => ?_, rfl⟩,
    ⟨_, exec_served s tag (.clearAttention mask) served, fun b lt => ?_, rfl⟩⟩
  · exact Vector.getElem_replicate _
  · have cleared : (s.service.causes &&& ~~~mask).getLsbD b = (s.service.causes.getLsbD b && !mask.getLsbD b) := by
      rw [BitVec.getLsbD_and, BitVec.getLsbD_not, decide_eq_true lt, Bool.true_and]
    exact cleared

/-- Settles O18: the values out of range, and otherwise the seal test of a changed threshold and the warning test of a
changed setting, each made or not. -/
theorem tuningDecided : Obligations.TuningDecided := by
  unfold Obligations.TuningDecided
  intro tag threshold coalesce discard warning mask s served
  refine ⟨fun outside => ?_, fun low high time discards level => ?_⟩
  · refine exec_refused (c := .setTuning threshold coalesce discard warning mask) served (setTuningRule_outside ?_)
    rw [← Bool.not_eq_true, tuningInRange_iff]
    rintro ⟨low, high, time, discards, level⟩
    obtain below | above | late | never | ⟨explicit, unknown | far⟩ := outside
    · omega
    · omega
    · omega
    · omega
    · obtain default | ⟨known, -⟩ := level
      · exact explicit default
      · rw [heard_ctl, unknown] at known
        cases known
    · obtain default | ⟨-, near⟩ := level
      · exact explicit default
      · exact absurd near (Nat.not_le.2 far)
  · let u := (s.heard tag (.setTuning threshold coalesce discard warning mask)).tuned threshold coalesce discard
      warning mask
    have ruled : exec (.setTuning tag threshold coalesce discard warning mask) s =
        .next (((u.thresholdTest s.writer.flushThreshold).settingTest s.writer.warnSetting).done.answer tag) :=
      exec_ruled (c := .setTuning threshold coalesce discard warning mask) served
        (if_pos (tuningInRange_iff.2 ⟨low, high, time, discards, level⟩))
    have seals_iff (b : Bool) : (u.writer.flushThreshold ≠ s.writer.flushThreshold ∧ u.Seals b) ↔
        threshold.toNat ≠ s.writer.flushThreshold ∧ s.writer.bankIn .filling = some b ∧
          (s.writer.bank (!b)).state = .empty ∧ ¬(s.ctl.op = some .rollback ∧ s.ctl.phase = .resolve) ∧
          (threshold.toNat ≤ (s.writer.bank b).records.length ∨ s.writer.coalesceDemand = true ∨ s.ctl.drain = true ∨
            s.faults.hold = true ∨ (s.writer.bank b).records.length = 16) := by
      rw [State.Seals, resolving_false_iff, sealWanted_iff]
      rfl
    obtain ⟨bank0, bank1, last, timer, demand, counters, sealed, seals, never⟩ :=
      thresholdTest_outcome u s.writer.flushThreshold
    rw [sealed] at ruled
    obtain ⟨armed, causes, warned, warns, silent⟩ := settingTest_outcome { u with
      writer := { u.writer with
        bank0 := bank0, bank1 := bank1, lastSealed := last, coalesceTimer := timer, coalesceDemand := demand }
      counters := counters } s.writer.warnSetting
    rw [warned] at ruled
    refine ⟨_, ruled, rfl, rfl, rfl, rfl, rfl, rfl, ⟨fun b now => seals b ((seals_iff b).2 now), fun not =>
      never fun b sealing => not b ((seals_iff b).1 sealing)⟩, ⟨fun now => warns ?_, fun not => silent (mt ?_ not)⟩,
      rfl⟩
    · obtain ⟨armed, changed, level, reached⟩ := now
      exact ⟨changed, armed, level, reached⟩
    · rintro ⟨changed, armed, level, reached⟩
      exact ⟨armed, changed, level, reached⟩

/-- Settles O19: the entry that passes its checks replaces the staged one. -/
theorem regionStaged : Obligations.RegionStaged := by
  unfold Obligations.RegionStaged
  intro tag index e s lt served idle put
  have staged (r : RegionEntry) (entry : (s.heard tag (.stageRegion index e)).stagedEntry e = some r) :
      exec (.stageRegion tag index e) s = .next (put r) :=
    exec_ruled (c := .stageRegion index e) served
      (stageRegionRule_placed (s := s.heard tag (.stageRegion index e)) idle entry lt)
  refine ⟨fun off => staged _ (stagedEntry_off off), fun low high fits above clear =>
    ⟨fun journaled => staged _ ?_, fun frozen => staged _ ?_⟩⟩
  · rw [stagedEntry_journaled journaled]
    exact if_pos ((stagePlaceable_iff _ _ (by decide) _ _ _).2 ⟨low, high, fits, above, clear⟩)
  · rw [stagedEntry_frozen frozen]
    exact if_pos ((stagePlaceable_iff _ _ (by decide) _ _ _).2 ⟨low, high, fits, above, clear⟩)

/-- Settles O20: BUSY before the checks of the entry, each of which refuses it. -/
theorem regionNotStaged : Obligations.RegionNotStaged := by
  unfold Obligations.RegionNotStaged
  intro tag index e s served
  refine ⟨fun busy => exec_refused (c := .stageRegion index e) served (stageRegionRule_busy busy), fun idle fails => ?_⟩
  refine exec_refused (c := .stageRegion index e) served (stageRegionRule_refused idle ?_)
  obtain outside | unknown | ⟨on, unplaceable⟩ := fails
  · exact .inr outside
  · exact .inl (stagedEntry_unknown unknown)
  · refine .inl (stagedEntry_unplaceable on fun m isOn elide => ?_)
    rw [← Bool.not_eq_true, stagePlaceable_iff _ _ isOn]
    rintro ⟨low, high, fits, above, clear⟩
    obtain empty | long | past | block | ⟨g, granule, known, first, last, covered⟩ := unplaceable
    · omega
    · omega
    · omega
    · omega
    · rw [clear g known granule first last] at covered
      cases covered

/-- Settles O22: the admission checks in their order, for the five commands together and then one by one. -/
theorem longOpsRefused : Obligations.LongOpsRefused := by
  unfold Obligations.LongOpsRefused
  intro tag base size s served
  refine ⟨fun c listed => ?_, fun idle unheld => ?_⟩
  · obtain ⟨kind, begins⟩ : ∃ kind, BeginsOp c kind := by
      simp only [List.mem_cons, List.not_mem_nil, or_false] at listed
      obtain rfl | rfl | rfl | rfl | rfl := listed
      all_goals exact ⟨_, rfl⟩
    exact ⟨fun busy => exec_refused served (ruleOf_refused begins (opRefusal_busy busy)),
      fun idle held => exec_refused served (ruleOf_refused begins (opRefusal_powerHold idle held))⟩
  have badState {c : ServiceCommand} {kind : OpKind} (begins : BeginsOp c kind) (state : ¬s.admits kind = true) :
      exec (c.toInstr tag) s = .next (s.replied tag c .badState []) :=
    exec_refused served (ruleOf_refused begins (opRefusal_badState idle unheld (Bool.not_eq_true _ ▸ state)))
  have opens (c : ServiceCommand) {kind : OpKind} (state : s.admits kind = true) :
      (s.heard tag c).opRefusal kind = none := (opRefusal_eq_none _ _).2 ⟨idle, unheld, state⟩
  refine ⟨fun notReady => ?_, fun notPending notFault => ?_, fun state => ?_, fun state => ?_, fun notHalted => ?_,
    fun ready illegal => ?_, fun state illegal => ?_, fun state => ⟨fun illegal => ?_, fun legal illegal => ?_⟩⟩
  · exact badState (c := .checkpoint) rfl (mt admits_checkpoint.1 notReady)
  · refine badState (c := .adopt) rfl (mt admits_adopt.1 ?_)
    rintro (pending | ⟨fault, forward⟩)
    · exact notPending pending
    · rw [notFault fault] at forward
      cases forward
  · refine badState (c := .rollback) rfl (mt admits_rollback.1 ?_)
    obtain unformatted | ⟨fault, clear⟩ := state
    · simp [unformatted]
    · simp [fault, clear]
  · refine badState (c := .format base size) rfl (mt admits_format.1 ?_)
    obtain halted | pending | ⟨fault, forward⟩ := state
    · simp [halted]
    · simp [pending]
    · simp [fault, forward]
  · exact badState (c := .resume) rfl (mt admits_resume.1 notHalted)
  · exact exec_refused (c := .checkpoint) served
      (checkpointRule_tableInvalid (opens _ (admits_checkpoint.2 ready)) (stagedLegal_false illegal))
  · exact exec_refused (c := .adopt) served
      (adoptRule_tableInvalid (opens _ (admits_adopt.2 state)) (stagedLegal_false illegal))
  · exact exec_refused (c := .format base size) served
      (formatRule_badArgument (opens _ (admits_format.2 state)) illegal)
  · exact exec_refused (c := .format base size) served
      (formatRule_tableInvalid (opens _ (admits_format.2 state)) legal illegal)

/-- Settles O27: the two refusals, and a peek that reads at once or behind the others. -/
theorem peekDecided : Obligations.PeekDecided := by
  unfold Obligations.PeekDecided
  intro tag slot s served
  refine ⟨fun unformatted => ?_, fun formatted outside => ?_, fun g known formatted inside =>
    ⟨fun first => ?_, fun behind => ?_⟩⟩
  · exact exec_refused (c := .peekRecord slot) served (if_pos unformatted)
  · exact exec_refused (c := .peekRecord slot) served ((if_neg formatted).trans (if_pos outside))
  · refine (exec_ruled (c := .peekRecord slot) served (peekRecordRule_accepted known formatted inside)).trans ?_
    rw [withPeek_first (p := (s.heard tag (.peekRecord slot)).service) first]
    rfl
  · refine (exec_ruled (c := .peekRecord slot) served (peekRecordRule_accepted known formatted inside)).trans ?_
    rw [withPeek_behind (p := (s.heard tag (.peekRecord slot)).service) behind]
    rfl

/-- Settles O32: the answer to the read that the response awaits, and any other. -/
theorem peekAnswered : Obligations.PeekAnswered := by
  unfold Obligations.PeekAnswered
  intro a k s out flying read
  have ruled (answer : ReadAnswer) := exec_peekReadDone out flying read answer
  refine ⟨fun seen => ⟨fun pending alone => ?_, fun not => ?_⟩, fun pending alone => ?_, fun not => ?_⟩
  · exact (ruled _).trans (congrArg Host.Outcome.next (peekAnswered_awaited pending alone))
  · exact (ruled _).trans (congrArg Host.Outcome.next (peekAnswered_dropped not))
  · exact (ruled _).trans (congrArg Host.Outcome.next (peekAnswered_awaited pending alone))
  · exact (ruled _).trans (congrArg Host.Outcome.next (peekAnswered_dropped not))

end Sys2Proof.Proofs
end

section
/-! R94 to R98. The stored formats give back what was written: each field of an anchor and of a record is read from the
word that holds it. -/

namespace Sys2Proof.Machine

theorem wordOfNat_toNat {n : Nat} (lt : n < 4294967296) : (wordOfNat n).toNat = n := by
  rw [wordOfNat, BitVec.toNat_ofNat]
  exact Nat.mod_eq_of_lt lt

/-! ### Records (R98) -/

theorem origin_toNat (r : JournalRecord) :
    r.origin.toNat = r.master.toNat * 2 ^ 26 + r.region % 2 ^ 3 * 2 ^ 23 + r.granule % 2 ^ 23 := by
  have granule := Nat.mod_lt r.granule (show 0 < 2 ^ 23 by decide)
  have region := Nat.mod_lt r.region (show 0 < 2 ^ 3 by decide)
  simp only [JournalRecord.origin, BitVec.toNat_append, BitVec.toNat_ofNat]
  rw [← Nat.shiftLeft_add_eq_or_of_lt granule, ← Nat.shiftLeft_add_eq_or_of_lt region]
  simp only [Nat.shiftLeft_eq]
  have master := r.master.isLt
  simp
  omega

theorem originGranule_origin (r : JournalRecord) (lt : r.granule < 8388608) : originGranule r.origin = r.granule := by
  rw [originGranule, BitVec.toNat_setWidth, origin_toNat]
  omega

theorem originMaster_origin (r : JournalRecord) : originMaster r.origin = r.master := by
  apply BitVec.eq_of_toNat_eq
  have master := r.master.isLt
  rw [originMaster, BitVec.toNat_setWidth, BitVec.toNat_ushiftRight, origin_toNat, Nat.shiftRight_eq_div_pow]
  omega

theorem verdictOf_words (r : JournalRecord) (epoch : Word) (slot : Nat) (set : r.epoch ≠ 0) (short : r.seq < 2 ^ 32) :
    verdictOf r.words epoch slot =
      if r.epoch ≠ epoch then .epoch else if r.seq ≠ slot then .sequence else .valid := by
  have seq := wordOfNat_toNat short
  simp only [verdictOf, JournalRecord.words, JournalRecord.head, List.cons_append, List.nil_append, seq, set,
    false_or, ne_eq, not_true_eq_false, if_false]

/-! ### Anchors (R94 to R96) -/

theorem Ending.ofCode_code (e : Ending) : Ending.ofCode (wordOfNat e.code).toNat = some e := by
  cases e with
  | formatted => rfl
  | committed => rfl
  | adopted => rfl
  | rolledBack => rfl
  | restarted => rfl

/-- R95: the word that holds the mode and the elide byte of an entry. -/
theorem flags_word (mode : RegionMode) (elide : Bool) :
    let flags := wordOf (byteOf mode.code) (if elide then 1 else 0) 0 0
    (flags >>> 16 = 0 ∧ (laneByte flags 1).toNat ≤ 1) ∧ RegionMode.ofCode (laneByte flags 0).toNat = some mode ∧
      (laneByte flags 1 == 1) = elide := by
  cases mode <;> cases elide <;> decide

theorem entryOfWords_words {e : RegionEntry} (base : e.base < 4294967296) (length : e.length < 4294967296) :
    entryOfWords (wordOfNat e.base) (wordOfNat e.length) (wordOf (byteOf e.mode.code) (if e.elide then 1 else 0) 0 0) =
      some e := by
  obtain ⟨fits, mode, elide⟩ := flags_word e.mode e.elide
  rw [entryOfWords, if_pos fits, mode, elide, wordOfNat_toNat base, wordOfNat_toNat length]
  rfl

theorem entriesOfWords_words {es : List RegionEntry}
    (small : ∀ e ∈ es, e.base < 4294967296 ∧ e.length < 4294967296) :
    entriesOfWords (es.flatMap RegionEntry.words) = some es := by
  induction es with
  | nil => rfl
  | cons e rest ih =>
    obtain ⟨base, length⟩ := small e List.mem_cons_self
    have behind := ih fun f mem => small f (List.mem_cons_of_mem e mem)
    rw [List.flatMap_cons, RegionEntry.words]
    simp only [List.cons_append, List.nil_append, entriesOfWords, entryOfWords_words base length, behind]

theorem entryWords_length (es : List RegionEntry) : (es.flatMap RegionEntry.words).length = 3 * es.length := by
  induction es with
  | nil => rfl
  | cons e rest ih =>
    rw [List.flatMap_cons, List.length_append, ih, List.length_cons, show e.words.length = 3 from rfl]
    omega

theorem tableOfEntries_toList (t : Table) : tableOfEntries t.toList = some t := by
  rw [tableOfEntries, dif_pos (Vector.length_toList)]
  rfl

/-- R7: the fields of a legal entry fit their words. -/
theorem RegionEntry.fits_of_legal {e : RegionEntry} {g : Geometry} (legal : e.legal g = true) :
    e.base < 4294967296 ∧ e.length < 4294967296 := by
  cases mode : e.mode with
  | off =>
    simp only [RegionEntry.legal, mode, Bool.and_eq_true, beq_iff_eq] at legal
    omega
  | journaled | frozen =>
    unfold RegionEntry.legal Config.touchBits Config.granules at legal
    simp only [mode, Bool.and_eq_true, decide_eq_true_eq] at legal
    omega

theorem Geometry.fits_of_legal {g : Geometry} (legal : g.legal = true) :
    g.base < 4294967296 ∧ g.size < 4294967296 := by
  unfold Geometry.legal Config.addressSpace at legal
  simp only [Bool.and_eq_true, decide_eq_true_eq] at legal
  omega

theorem anchor_words_eq (a : Anchor) : a.words =
    [Config.formatMark, a.generation, a.epoch, wordOfNat a.ending.code, wordOfNat a.geometry.base,
      wordOfNat a.geometry.size] ++ (a.table.toList.flatMap RegionEntry.words ++
        [0, crc32 (wordsBytes a.body)]) := by
  simp [Anchor.words, Anchor.body]

theorem tableWords_length (t : Table) : (t.toList.flatMap RegionEntry.words).length = 24 := by
  rw [entryWords_length, Vector.length_toList]

theorem anchor_words_length (a : Anchor) : a.words.length = 32 := by
  rw [anchor_words_eq, List.length_append, List.length_append, tableWords_length]
  rfl

theorem anchorOfWords_words {a : Anchor} (geometry : a.geometry.legal = true)
    (table : a.table.legal a.geometry = true) : anchorOfWords a.words = some a := by
  obtain ⟨base, size⟩ := Geometry.fits_of_legal geometry
  have entries : entriesOfWords ((a.words.drop 6).take 24) = some a.table.toList := by
    have stored : (a.words.drop 6).take 24 = a.table.toList.flatMap RegionEntry.words := by
      rw [anchor_words_eq, List.drop_left' (i := 6) rfl, List.take_left' (tableWords_length _)]
    rw [stored]
    refine entriesOfWords_words fun e mem => ?_
    obtain ⟨legal, -, -⟩ := (a.table.legal_iff a.geometry).1 table
    rw [Table.toList_eq_map, List.mem_map] at mem
    obtain ⟨j, -, rfl⟩ := mem
    exact RegionEntry.fits_of_legal (legal j)
  have bodyLength : a.body.length = 31 := by
    have := anchor_words_length a
    rw [Anchor.words, List.length_append] at this
    exact Nat.add_right_cancel this
  have body : a.words.take 31 = a.body := List.take_left' bodyLength
  have check : a.words[31]? = some (crc32 (wordsBytes a.body)) := by
    rw [Anchor.words, List.getElem?_append_right (by omega), bodyLength]
    rfl
  have fill : a.words[30]? = some 0 := by
    rw [anchor_words_eq, List.getElem?_append_right (by simp), List.getElem?_append_right (by
      rw [tableWords_length]; simp), tableWords_length]
    rfl
  have head : a.words.take 6 = [Config.formatMark, a.generation, a.epoch, wordOfNat a.ending.code,
      wordOfNat a.geometry.base, wordOfNat a.geometry.size] := by
    rw [anchor_words_eq]
    exact List.take_left' rfl
  have whole : Config.formatMark = Config.formatMark ∧ crc32 (wordsBytes (a.words.take 31)) =
      crc32 (wordsBytes a.body) ∧ (0 : Word) = 0 ∧ a.words.length = 32 :=
    ⟨rfl, by rw [body], rfl, anchor_words_length a⟩
  unfold anchorOfWords
  rw [head, fill, check]
  refine (if_pos whole).trans ?_
  rw [Ending.ofCode_code, entries, Option.bind_some, tableOfEntries_toList, wordOfNat_toNat base, wordOfNat_toNat size]
  exact if_pos ⟨geometry, table⟩

end Sys2Proof.Machine

namespace Sys2Proof.Proofs

open Sys2Proof Sys2Proof.Machine

/-- Settles O52: the halves are the words of the anchor, and each field is read from its own. -/
theorem anchorRoundTrip : Obligations.AnchorRoundTrip := by
  unfold Obligations.AnchorRoundTrip
  intro a geometry table
  have length := anchor_words_length a
  have whole : a.half false ++ a.half true = a.words := List.take_append_drop 16 a.words
  refine ⟨?_, ?_, whole ▸ anchorOfWords_words geometry table⟩
  · exact (List.length_take_of_le (by omega))
  · exact (List.length_drop ..).trans (by omega)

/-- Settles O53: the check code stands, so the verdict is the epoch's and the sequence's, and the origin word holds its
fields apart. -/
theorem recordRoundTrip : Obligations.RecordRoundTrip := by
  unfold Obligations.RecordRoundTrip
  intro r epoch slot set granule short
  have verdict := verdictOf_words r epoch slot set short
  refine ⟨?_, fun other => verdict.trans (if_pos other), originGranule_origin r granule, originMaster_origin r,
    fun region => ?_, rfl⟩
  · rw [verdict]
    by_cases same : r.epoch = epoch
    · by_cases place : r.seq = slot <;> simp [same, place]
    · simp [same]
  · have origin : (r.words.getD 2 0).toNat = _ := origin_toNat r
    rw [origin]
    omega

end Sys2Proof.Proofs
end

section
/-! R5, R8, R33, R68, R79, R151 to R156, R161 to R163, R167, R169, R171, R175 to R177. The lines of RESET and PFAIL, the
requests that stand at the memory port and the grant, the fetches, the timers and the fault reports: a lemma for each
test in each of its outcomes. -/

namespace Sys2Proof.Machine

open Sys2Proof

/-! ### PFQUIET (R177) -/

theorem quietTest_rises {s : State} (quiet : s.quiet = true) (low : s.faults.pfquiet = false) :
    s.quietTest = { s with
      faults := { s.faults with pfquiet := true }
      service := { s.service with causes := s.service.causes ||| 0x40 } } :=
  if_pos (by simp [quiet, low])

theorem quietTest_of_not_quiet {s : State} (noise : s.quiet = false) : s.quietTest = s :=
  if_neg (by simp [noise])

theorem quietTest_of_pfquiet {s : State} (high : s.faults.pfquiet = true) : s.quietTest = s :=
  if_neg (by simp [high])

theorem quietTest_shape (s : State) : s.quietTest = { s with
    faults := { s.faults with pfquiet := s.quietTest.faults.pfquiet }, service := s.quietTest.service } := by
  obtain ⟨same, -⟩ | ⟨rises, -, -⟩ := quietTest_cases s
  · rw [same]
  · rw [rises]; rfl

theorem quietTest_hold (s : State) : s.quietTest.faults.hold = s.faults.hold := by rw [quietTest_shape]

theorem sealTest_faults (s : State) : s.sealTest.faults = s.faults := by rw [sealTest_shape]

theorem quiet_false_of_banks {s : State} (banks : s.writer.banksEmpty = false) : s.quiet = false := by
  simp [State.quiet, banks]

/-! ### RESET (R8, R167) -/

/-- R167: an abandoned access leaves every byte that it did not write. -/
theorem readByte_abandonedMem (s : State) (left : List Byte) (a : Nat)
    (apart : ∀ (f : InFlight) (addr : Nat) (words : List LaneWord), s.port = some f → f.access = .write addr words →
      a < addr ∨ addr + 4 * words.length ≤ a) :
    readByte (s.abandonedMem left) a = readByte s.mem a := by
  unfold State.abandonedMem
  cases flying : s.port with
  | none => rfl
  | some f =>
    cases access : f.access with
    | read addr len =>
      simp only [access]
      rfl
    | write addr words =>
      have clear := apart f addr words flying access
      simp only [access]
      refine readByte_writeBytes_ne _ _ _ _ ?_
      rw [List.length_take]
      omega

/-! ### Requests and the grant (R162, R163) -/

theorem copy_base_eq (copy : Copy) : copy.base = if copy = .a then 0 else 128 := by
  cases copy <;> rfl

theorem anchorTarget_base (newest : Option Copy) :
    (anchorTarget newest).base = if newest = some .a then 128 else 0 := by
  match newest with
  | none => rfl
  | some .a => rfl
  | some .b => rfl

theorem halfOffset_isSome (first : Option (List Word)) :
    halfOffset first.isSome = if first = none then 0 else 64 := by
  cases first with
  | none => rfl
  | some ws => exact (if_neg nofun).symm

theorem quiescing_iff (c : EpochController) : c.quiescing = true ↔ c.op = some .rollback ∧ c.phase = .quiesce := by
  simp [EpochController.quiescing, EpochController.rollingBack]

theorem epochRequest_of_work {s : State} {w : EpochWork} (work : s.ctl.work = w) :
    s.epochRequest = ({ s with ctl := { s.ctl with work := w } } : State).epochRequest := by
  rw [← work]

theorem journalRequest_flushing {s : State} {b : Bool} {r : JournalRecord} {rest : List JournalRecord}
    (writes : s.ctl.resolving = false) (flushing : s.writer.bankIn .flushing = some b)
    (records : (s.writer.bank b).records = r :: rest) :
    s.journalRequest = some (.write (s.areaBase + 48 * r.seq) (r.words.map fun w => (w, 0xF))) := by
  rw [State.journalRequest, if_neg (by simp [writes]), flushing]
  simp only [records]
  rfl

theorem journalRequest_resolving {s : State} (resolving : s.ctl.resolving = true) : s.journalRequest = none :=
  if_pos resolving

theorem journalRequest_idle {s : State}
    (empty : ∀ b, s.writer.bankIn .flushing = some b → (s.writer.bank b).records = []) : s.journalRequest = none := by
  unfold State.journalRequest
  split
  · rfl
  · split
    · rfl
    · rename_i b flushing
      rw [empty b flushing]

theorem commitRequest_ready {s : State} {e : Entry} {rest : List Entry} (head : s.pwq.entries = e :: rest)
    (ready : e.stage = .ready) (writes : s.ctl.quiescing = false) : s.commitRequest = some e.access := by
  rw [State.commitRequest, head]
  exact if_pos ⟨ready, writes⟩

theorem commitRequest_idle {s : State} {e : Entry} {rest : List Entry} (head : s.pwq.entries = e :: rest)
    (not : e.stage ≠ .ready ∨ s.ctl.quiescing = true) : s.commitRequest = none := by
  rw [State.commitRequest, head]
  refine if_neg fun ⟨ready, writes⟩ => ?_
  obtain other | quiesces := not
  · exact other ready
  · rw [writes] at quiesces
    cases quiesces

theorem classifierRequest_idle {s : State} (not : ∀ k, s.pwq.classifier ≠ .reading k) : s.classifierRequest = none := by
  unfold State.classifierRequest
  split
  · rename_i k reading
    exact absurd reading (not k)
  · rfl

theorem Slot.request_idle {sl : Slot} (not : ∀ k, sl ≠ .fetchPending k) : sl.request = none := by
  cases sl with
  | fetchPending k => exact absurd rfl (not k)
  | _ => rfl

/-- The first element of a list, in its order, that has an image. -/
theorem findSome?_of_idxOf {α β : Type} [DecidableEq α] (f : α → Option β) {l : List α} {r : α} {b : β} (mem : r ∈ l)
    (image : f r = some b) (first : ∀ q, l.idxOf q < l.idxOf r → f q = none) : l.findSome? f = some b := by
  induction l with
  | nil => cases mem
  | cons x rest ih =>
    by_cases same : x = r
    · rw [List.findSome?_cons, same, image]
    · have before : f x = none := by
        apply first
        rw [List.idxOf_cons_self, List.idxOf_cons_ne _ same]
        exact Nat.succ_pos _
      rw [List.findSome?_cons, before]
      refine ih (List.mem_of_ne_of_mem (Ne.symm same) mem) fun q lt => ?_
      by_cases head : x = q
      · rw [← head, before]
      · apply first
        rw [List.idxOf_cons_ne _ head, List.idxOf_cons_ne _ same]
        exact Nat.succ_lt_succ lt

theorem mem_arbiterOrder (r : Requester) : r ∈ arbiterOrder := by
  cases r with
  | readSlot i => fin_cases i <;> decide
  | _ => decide

theorem chosen_of_first {s : State} {r : Requester} {a : Access} (stands : s.requestOf r = some a)
    (first : ∀ q, arbiterOrder.idxOf q < arbiterOrder.idxOf r → s.requestOf q = none) : s.chosen = some ⟨r, a⟩ :=
  findSome?_of_idxOf _ (mem_arbiterOrder r) (by rw [stands]; rfl) fun q lt => by rw [first q lt]; rfl

theorem chosen_none {s : State} (idle : ∀ r, s.requestOf r = none) : s.chosen = none :=
  List.findSome?_eq_none_iff.2 fun r _ => by rw [idle r]; rfl

section grant

variable {s : State} {f : InFlight}

theorem exec_memoryGrant_stays (not : s.port ≠ none ∨ s.chosen = none) : exec .memoryGrant s = .next s := by
  change (if s.inReset then _ else _) = _
  split
  · rfl
  · split
    · rename_i port chosen
      obtain busy | idle := not
      · exact absurd port busy
      · rw [idle] at chosen
        cases chosen
    · rfl

theorem exec_memoryGrant_inside (out : s.inReset = false) (idle : s.port = none) (chosen : s.chosen = some f)
    (inside : f.access.addr + 4 * f.access.len ≤ 268435456) :
    exec .memoryGrant s = .next ((s.grantedTo f.owner).withPort (some f)) := by
  refine (if_neg (by simp [out])).trans ?_
  rw [idle, chosen]
  exact if_pos (decide_eq_true inside)

theorem exec_memoryGrant_outside (out : s.inReset = false) (idle : s.port = none) (chosen : s.chosen = some f)
    (outside : 268435456 < f.access.addr + 4 * f.access.len) :
    exec .memoryGrant s = .fault .outsideAddressSpace := by
  refine (if_neg (by simp [out])).trans ?_
  rw [idle, chosen]
  exact if_neg (by rw [Access.inside, decide_eq_true_eq]; exact Nat.not_le.2 outside)

theorem grantedTo_other {r : Requester} (notCommit : r ≠ .commitStage) (notSlot : ∀ i, r ≠ .readSlot i) :
    s.grantedTo r = s := by
  cases r with
  | commitStage => exact absurd rfl notCommit
  | readSlot i => exact absurd rfl (notSlot i)
  | _ => rfl

end grant

/-! ### Fetches and timers (R79, R152, R153, R155) -/

section fetches

variable {s : State} {i : Fin 4}

theorem exec_fetchDone {a : Access} (out : s.inReset = false) (flying : s.port = some ⟨.readSlot i, a⟩)
    (answer : ReadAnswer) :
    exec (.fetchDone answer) s = .next ((s.answered answer.isError).fetchAnswered i (s.answerWords a answer)) := by
  refine (running_next s _ out).trans ?_
  rw [State.fetchDone, flying]

theorem fetchAnswered_fetching {k : SlotKey} {stale : Bool} (fetching : s.reads.slots[i] = .fetching k stale)
    (words : Option (List Word)) : s.fetchAnswered i words =
      if words.isNone then (s.withReads (s.reads.setSlot i (Slot.fetched s.pwq s.reads.discardTime words
        (.fetching k stale)))).report (fetchReport i k)
      else s.withReads (s.reads.setSlot i (Slot.fetched s.pwq s.reads.discardTime words (.fetching k stale))) := by
  unfold State.fetchAnswered
  rw [fetching]

theorem fetchAnswered_other (not : ∀ k stale, s.reads.slots[i] ≠ .fetching k stale) (words : Option (List Word)) :
    s.fetchAnswered i words = s := by
  unfold State.fetchAnswered
  split
  · rename_i k stale fetching
    exact absurd fetching (not k stale)
  · rfl

theorem timerRuns_iff (sl : Slot) : sl.timerRuns = true ↔
    (∃ k words timer, sl = .ready k words timer) ∨ ∃ k timer, sl = .failed k timer := by
  cases sl <;> simp [Slot.timerRuns]

theorem exec_slotDiscardTimerExpiry (out : s.inReset = false) (i : Fin 4) :
    exec (.slotDiscardTimerExpiry i) s = .next (if s.reads.slots[i].timerRuns then
      (s.withReads (s.reads.setSlot i .free)).bump .slotsDiscarded else s) := running_next _ _ out

theorem coalesceExpired_seals {b : Bool} (filling : s.writer.bankIn .filling = some b)
    (empty : (s.writer.bank (!b)).state = .empty) (writes : s.ctl.resolving = false) :
    s.coalesceExpired = ({ s with
      writer := { s.writer.setBank b ⟨.flushing, (s.writer.bank b).records⟩ with
        lastSealed := some b, coalesceTimer := none, coalesceDemand := false } } : State).bump .flushes := by
  have seals : (s.withWriter { s.writer with coalesceTimer := none, coalesceDemand := true }).Seals b :=
    ⟨filling, empty, writes, (sealWanted_iff _ _).2 (.inr (.inl rfl))⟩
  refine (sealTest_of_seals seals).trans ?_
  cases b <;> rfl

theorem coalesceExpired_waits
    (busy : ∀ b, s.writer.bankIn .filling = some b → (s.writer.bank (!b)).state ≠ .empty) :
    s.coalesceExpired = { s with writer := { s.writer with coalesceTimer := none, coalesceDemand := true } } :=
  sealTest_of_not (s := s.withWriter { s.writer with coalesceTimer := none, coalesceDemand := true })
    fun b seals => busy b seals.1 seals.2.1

theorem exec_coalesceTimerExpiry (out : s.inReset = false) : exec .coalesceTimerExpiry s =
    .next (if s.writer.coalesceTimer.isSome then s.coalesceExpired else s) := running_next _ _ out

end fetches

/-! ### Fault reports (R169, R171) -/

section faults

variable {s : State} {r : FaultReport}

/-- R171: a report of kind OLD_READ or FLUSH makes the halt decision with its own cause. -/
theorem report_of_halting (halting : r.kind = .oldRead ∨ r.kind = .flush) :
    s.report r = (s.recordFault r).haltOn (if r.kind = .oldRead then .oldRead else .flush) := by
  unfold State.report
  obtain kind | kind := halting
  · rw [kind]; rfl
  · rw [kind]; rfl

theorem failsOnHalt_iff (c : EpochController) : c.failsOnHalt = true ↔
    (c.op = some .checkpoint ∨ c.op = some .format) ∧ (c.phase = .freeze ∨ c.phase = .drain) := by
  simp [EpochController.failsOnHalt]

end faults

end Sys2Proof.Machine

namespace Sys2Proof.Proofs

open Sys2Proof Sys2Proof.Machine

/-- Settles O4: the RESET state field by field, and the memory of an abandoned write. -/
theorem resetValues : Obligations.ResetValues := by
  unfold Obligations.ResetValues
  intro left s
  refine ⟨_, rfl, rfl, rfl, fun i => ?regions, rfl, rfl, rfl, rfl, rfl, rfl, rfl, rfl, rfl, rfl, rfl, rfl, rfl, rfl,
    rfl, rfl, rfl, fun i => ?slots, rfl, rfl, rfl, rfl, rfl, rfl, rfl, rfl, rfl, rfl, rfl, rfl, rfl, rfl, rfl, rfl,
    rfl, rfl, rfl, rfl, rfl, rfl, rfl, rfl, rfl, rfl, rfl, rfl, ?attn, fun k => ?counters, readByte_abandonedMem s left⟩
  case regions => exact ⟨Vector.getElem_replicate _, Vector.getElem_replicate _⟩
  case slots => exact Vector.getElem_replicate _
  case attn =>
    change ((0 : Byte) &&& 0xFF != 0) = false
    decide
  case counters => exact Vector.getElem_replicate _

/-- Settles O5: the test of PFQUIET after the release, without the hold and with it. -/
theorem resetReleased : Obligations.ResetReleased := by
  unfold Obligations.ResetReleased
  intro s reset
  have released : exec .resetReleased s =
      .next ({ s with inReset := false }.withPhase .mapSweep .rest).quietTest := congrArg _ (if_pos reset)
  refine ⟨fun unheld => ?_, fun held low empty bank0 bank1 idle => ?_⟩
  · exact released.trans (congrArg Host.Outcome.next (quietTest_of_hold _ unheld))
  · have banks : s.writer.banksEmpty = true := by simp [JournalWriter.banksEmpty, bank0, bank1]
    exact released.trans
      (congrArg Host.Outcome.next (quietTest_rises ((quiet_iff _).2 ⟨rfl, held, empty, banks, idle⟩) low))

/-- Settles O6: the seal that the hold demands, or without a FILLING bank the test of PFQUIET. -/
theorem pfailLines : Obligations.PfailLines := by
  unfold Obligations.PfailLines
  refine ⟨fun s => rfl, fun s unheld => ?_⟩
  let h : State := { s with faults := { s.faults with hold := true } }
  have asserted : exec .pfailAsserted s = .next h.sealTest.quietTest := congrArg _ (if_neg (by simp [unheld]))
  refine ⟨_, asserted, ?hold, fun b filling empty writes => ?seals, fun unfilled low => ?quiet, ?shape⟩
  case hold => rw [quietTest_hold, sealTest_faults]
  case seals =>
    have seals : h.Seals b := ⟨filling, empty, writes, (sealWanted_iff _ _).2 (.inr (.inr (.inr (.inl rfl))))⟩
    have flushing : ((h.withWriter (h.writer.sealed b)).bump .flushes).writer.banksEmpty = false := by
      cases b <;> simp [JournalWriter.sealed, JournalWriter.setBank, JournalWriter.banksEmpty]
    rw [sealTest_of_seals seals, quietTest_of_not_quiet (quiet_false_of_banks flushing)]
    cases b <;> exact ⟨rfl, rfl, rfl, rfl, rfl, rfl, bump_counter _ _, rfl, rfl⟩
  case quiet =>
    have quiet : h.quiet = (!s.inReset && s.pwq.entries.isEmpty && s.writer.banksEmpty && s.ctl.op.isNone) := by
      simp [State.quiet, h]
    have unsealed : h.sealTest = h := sealTest_of_not fun b seals => by
      cases unfilled.symm.trans seals.1
    rw [unsealed, ← quiet]
    cases cond : h.quiet with
    | true =>
      rw [quietTest_rises cond low]
      exact ⟨rfl, rfl, rfl, rfl⟩
    | false =>
      rw [quietTest_of_not_quiet cond]
      exact ⟨rfl, rfl, low, by rw [show h.faults.pfquiet = false from low]; rfl⟩
  case shape =>
    obtain ⟨w, c, sealed⟩ : ∃ w c, h.sealTest = { h with writer := w, counters := c } := ⟨_, _, sealTest_shape h⟩
    rw [sealed]
    obtain ⟨p, v, rises⟩ : ∃ p v, ({ h with writer := w, counters := c } : State).quietTest =
        { h with writer := w, counters := c, faults := { h.faults with pfquiet := p }, service := v } :=
      ⟨_, _, quietTest_shape _⟩
    rw [rises]

/-- Settles O33: the request of each owner, read from its state. -/
theorem requestsStanding : Obligations.RequestsStanding := by
  unfold Obligations.RequestsStanding
  intro s
  have controller {w : EpochWork} {a : Option Access} (work : s.ctl.work = w)
      (request : ({ s with ctl := { s.ctl with work := w } } : State).epochRequest = a) :
      s.requestOf .epochController = a := (epochRequest_of_work work).trans request
  refine ⟨fun b r rest writes flushing records => journalRequest_flushing writes flushing records,
    fun op phase => journalRequest_resolving ((resolving_iff _).2 ⟨op, phase⟩), fun k reading => ?reading,
    fun e rest head ready writes => commitRequest_ready head ready ?writes,
    fun e rest head not => commitRequest_idle head (not.imp_right (quiescing_iff _).2), fun i k pending => ?pending,
    fun i work => ?slot, fun i g m old work => controller work rfl, fun copy first copyA work => controller work ?copy,
    ⟨fun second x work => controller work ?write, fun first x work => controller work ?back⟩,
    fun k work => controller work rfl, fun g known => ?base, fun k peek => ?peek, fun work => controller work rfl,
    journalRequest_idle, fun not => ?idle, fun empty => ?empty, fun i not => ?slotIdle, fun quiet => ?peekIdle⟩
  case reading =>
    rw [State.requestOf, State.classifierRequest, reading]
  case writes => exact Bool.eq_false_iff.2 (mt (quiescing_iff _).1 writes)
  case pending =>
    rw [State.requestOf, pending, Slot.request]
  case slot =>
    obtain scanning | walking := work
    · exact controller scanning rfl
    · exact controller walking rfl
  case copy => rw [← copy_base_eq, ← halfOffset_isSome]; rfl
  case write => rw [← anchorTarget_base]; rfl
  case back => rw [← anchorTarget_base, ← halfOffset_isSome]; rfl
  case base => rw [State.areaBase, known]; rfl
  case peek => rw [State.requestOf, peek]; rfl
  case idle => exact classifierRequest_idle not
  case empty => rw [State.requestOf, State.commitRequest, empty]
  case slotIdle => exact Slot.request_idle not
  case peekIdle => rw [State.requestOf, quiet]; rfl

/-- Settles O34: the arbiter's choice is the first standing request, and the grant tells its owner. -/
theorem grantTaken : Obligations.GrantTaken := by
  unfold Obligations.GrantTaken
  intro s out order
  refine ⟨fun not => exec_memoryGrant_stays (not.imp_right chosen_none), fun r a idle stands first => ?_⟩
  have chosen := chosen_of_first stands first
  refine ⟨fun inside => ?_, fun outside => exec_memoryGrant_outside out idle chosen outside⟩
  rw [exec_memoryGrant_inside out idle chosen inside]
  refine ⟨fun notCommit notSlot => ?_, fun e rest commit head => ?_, fun i k slot pending => ?_⟩
  · rw [grantedTo_other notCommit notSlot]
    rfl
  · rw [commit, State.grantedTo, head]
    rfl
  · rw [slot, State.grantedTo, pending]
    rfl

/-- Settles O40: the demand of an expired timer seals beside an EMPTY bank, and a slot's timer frees the slot. -/
theorem timersExpire : Obligations.TimersExpire := by
  unfold Obligations.TimersExpire
  intro s out
  refine ⟨fun runs => ⟨fun b filling empty writes => ?_, fun busy => ?_⟩, fun stopped => ?_, fun i =>
    ⟨fun runs => ?_, fun notReady notFailed => ?_⟩⟩
  · rw [exec_coalesceTimerExpiry out, if_pos (Option.isSome_iff_ne_none.2 runs),
      coalesceExpired_seals filling empty writes]
  · rw [exec_coalesceTimerExpiry out, if_pos (Option.isSome_iff_ne_none.2 runs), coalesceExpired_waits busy]
  · rw [exec_coalesceTimerExpiry out, stopped]
    rfl
  · rw [exec_slotDiscardTimerExpiry out, if_pos ((timerRuns_iff _).2 runs)]
    rfl
  · rw [exec_slotDiscardTimerExpiry out, if_neg]
    rw [timerRuns_iff]
    rintro (⟨k, words, timer, ready⟩ | ⟨k, timer, failed⟩)
    · exact notReady k words timer ready
    · exact notFailed k timer failed

/-- Settles O43: the answer by the slot's state. -/
theorem fetchAnswered : Obligations.FetchAnswered := by
  unfold Obligations.FetchAnswered
  intro i a seen s out flying put
  have ruled (answer : ReadAnswer) := exec_fetchDone out flying answer
  let okay : State := s.withPort none
  let failed : State := okay.bump .memoryErrors
  refine ⟨fun k fetching => ?_, fun k fetching => ⟨fun hazard => ?_, fun clear => ?_⟩, fun k stale fetching => ?_,
    fun not => ⟨?_, ?_⟩⟩
  · exact (ruled _).trans (congrArg Host.Outcome.next (fetchAnswered_fetching (s := okay) fetching _))
  · refine (ruled _).trans (congrArg Host.Outcome.next ((fetchAnswered_fetching (s := okay) fetching _).trans ?_))
    exact congrArg put (allocated_hazard hazard)
  · refine (ruled _).trans (congrArg Host.Outcome.next ((fetchAnswered_fetching (s := okay) fetching _).trans ?_))
    exact congrArg put (allocated_clear clear)
  · exact (ruled _).trans (congrArg Host.Outcome.next (fetchAnswered_fetching (s := failed) fetching _))
  · exact (ruled _).trans (congrArg Host.Outcome.next (fetchAnswered_other (s := okay) not _))
  · exact (ruled _).trans (congrArg Host.Outcome.next (fetchAnswered_other (s := failed) not _))

/-- Settles O51: the fault record in each report, and the halt decision of the two kinds that make it. -/
theorem faultTaken : Obligations.FaultTaken := by
  unfold Obligations.FaultTaken
  intro r s taken cause halted halts fails
  have recorded : s.recordFault r = taken := by
    unfold State.recordFault
    dsimp only [taken]
    cases s.faults.record <;> rfl
  refine ⟨fun stays => ?_, fun ⟨halting, ready, forward⟩ survives => ?_, fun ⟨halting, ready, forward⟩ failing => ?_⟩
  · by_cases halting : r.kind = .oldRead ∨ r.kind = .flush
    · rw [report_of_halting halting, recorded]
      refine haltOn_stays _ _ ?_
      by_contra both
      rw [not_or, not_not] at both
      exact stays ⟨halting, both.1, both.2⟩
    · rw [not_or] at halting
      rw [report_recorded _ _ halting.1 halting.2, recorded]
  · rw [report_of_halting halting, recorded]
    exact haltOn_halts taken cause ready forward (Bool.eq_false_iff.2 (mt (failsOnHalt_iff _).1 survives))
  · let h : State := ((taken.withJournal .halted).withHaltedCause (some cause)).setCause .halted
    have failed : s.report r = h.endOp .failed := by
      rw [report_of_halting halting, recorded]
      exact haltOn_fails taken cause ready forward ((failsOnHalt_iff _).2 failing)
    obtain ⟨checkpoint | format, -⟩ := failing
    · refine ⟨_, failed.trans (endOp_some h .failed .checkpoint checkpoint), ?_⟩
      rw [checkpoint]
      exact ⟨rfl, rfl, rfl, rfl, rfl, rfl, rfl, rfl, rfl, rfl, rfl, rfl, rfl, rfl⟩
    · refine ⟨_, failed.trans (endOp_some h .failed .format format), ?_⟩
      rw [format]
      exact ⟨rfl, rfl, rfl, rfl, rfl, rfl, rfl, rfl, rfl, rfl, rfl, rfl, rfl, rfl⟩

end Sys2Proof.Proofs
end

section
/-! R37, R39 to R48, R53 to R55, R63, R71 to R74, R82 to R84, R90, R91, R136, R149. The write lane after acceptance: the
classifier's attempt by the class of the granule, and the answers to the old-data read, the record write and the commit
write. -/

namespace Sys2Proof.Machine

open Sys2Proof

/-! ### Positions in the queue -/

theorem set_between (before behind : List Entry) (e x : Entry) :
    (before ++ e :: behind).set before.length x = before ++ x :: behind := by simp

theorem getElem?_between (before behind : List Entry) (e : Entry) :
    (before ++ e :: behind)[before.length]? = some e := by simp

/-- R149: a slot's notice of a departure. -/
theorem afterDeparture_hazardWait (q : WriteQueue) (g : Nat) (k : SlotKey) :
    Slot.afterDeparture q g (.hazardWait k) =
      if k.addr.toNat / 32 = g ∧ ∀ x ∈ q.entries, x.granule ≠ g then .fetchPending k else .hazardWait k := by
  have same : (k.granule = g ∧ q.addresses g = false) ↔ k.addr.toNat / 32 = g ∧ ∀ x ∈ q.entries, x.granule ≠ g := by
    rw [addresses_false]
    rfl
  by_cases leaves : k.addr.toNat / 32 = g ∧ ∀ x ∈ q.entries, x.granule ≠ g
  · rw [if_pos leaves]
    exact if_pos (same.2 leaves)
  · rw [if_neg leaves]
    exact if_neg (mt same.1 leaves)

/-! ### The classifier's attempt (R39 to R45) -/

section take

variable {s : State} {before behind : List Entry} {e : Entry}

theorem exec_classifierTake (taken : s.wouldTake before e behind) :
    exec .classifierTake s = .next (s.takeEntry before.length e).quietTest := by
  obtain ⟨out, idle, unfrozen, running, queue, unclassified, first⟩ := taken
  have may : s.mayTake = true := by simp [State.mayTake, idle, unfrozen, running]
  have entry : s.pwq.entries[before.length]? = some e := by rw [queue, getElem?_between]
  refine (running_next s _ out).trans ?_
  rw [State.classifierTake, if_pos may, firstIn_eq _ before behind e _ queue unclassified first]
  simp only [entry]

/-- The state in which the entry at its place has become another. -/
theorem takeReady_eq (queue : s.pwq.entries = before ++ e :: behind) :
    s.takeReady before.length e = s.withEntries
      (before ++ { e with stage := .ready, classEpoch := some s.ctl.epochInEffect } :: behind) := by
  rw [State.takeReady, queue, set_between]

theorem takeReady_quietTest (queue : s.pwq.entries = before ++ e :: behind) :
    (s.takeReady before.length e).quietTest = s.withEntries
      (before ++ { e with stage := .ready, classEpoch := some s.ctl.epochInEffect } :: behind) := by
  rw [takeReady_eq queue]
  exact quietTest_of_entries _ (by simp)

theorem takeDiscard_eq (queue : s.pwq.entries = before ++ e :: behind) :
    s.takeDiscard before.length e = ((((s.withEntries (before ++ behind)).noteDeparture e.granule).bump
      .writesDiscarded).report (s.tableDiscardReport e)) := by
  rw [State.takeDiscard, depart_eq _ before behind e queue]

theorem takeElide_eq (queue : s.pwq.entries = before ++ e :: behind) :
    s.takeElide before.length =
      ((s.withEntries (before ++ behind)).noteDeparture e.granule).bump .writesElided := by
  rw [State.takeElide, depart_eq _ before behind e queue]

theorem takeEntry_closed (closed : s.classOf e.granule = .anchor ∨ s.classOf e.granule = .recordArea ∨
    ∃ i, s.classOf e.granule = .frozen i) (i : Nat) : s.takeEntry i e = s.takeDiscard i e := by
  unfold State.takeEntry
  obtain anchor | area | ⟨j, frozen⟩ := closed
  · rw [anchor]
  · rw [area]
  · rw [frozen]

theorem takeEntry_unprotected (open_ : s.classOf e.granule = .unprotected) (i : Nat) :
    s.takeEntry i e = if e.isNull then s.takeElide i else s.takeReady i e := by
  rw [State.takeEntry, open_]

theorem takeEntry_journaled {region touch : Nat} {elide : Bool}
    (journaled : s.classOf e.granule = .journaled region touch elide) (i : Nat) : s.takeEntry i e =
      if e.isNull then s.takeElide i
      else if s.maps.touched touch then s.takeReady i e else s.takeRecord i e region touch elide := by
  rw [State.takeEntry, journaled]

theorem touched_iff (m : TouchMaps) (touch : Nat) :
    m.touched touch = true ↔ m.active.condition = .live ∧ touch ∈ m.active.setBits := by
  simp [TouchMaps.touched]

theorem takeRecord_full (full : s.capacity ≤ s.writer.nextSeq) (i region touch : Nat) (elide : Bool) :
    s.takeRecord i e region touch elide = s.fullReport := if_pos full

theorem takeRecord_reads (room : s.writer.nextSeq < s.capacity) (accepts : s.writer.canAccept = true)
    (queue : s.pwq.entries = before ++ e :: behind) (region touch : Nat) (elide : Bool) :
    s.takeRecord before.length e region touch elide = { s with pwq := {
      entries := before ++ { e with
        stage := .classifying, classEpoch := some s.ctl.epochInEffect, region := some region } :: behind
      classifier := .reading ⟨e.granule, e.master, region, touch, elide⟩ } } := by
  rw [State.takeRecord, if_neg (Nat.not_le.2 room), if_pos accepts, queue, set_between]
  rfl

theorem takeRecord_waits (room : s.writer.nextSeq < s.capacity) (refuses : s.writer.canAccept = false)
    (i region touch : Nat) (elide : Bool) : s.takeRecord i e region touch elide = s := by
  rw [State.takeRecord, if_neg (Nat.not_le.2 room), if_neg (by simp [refuses])]

end take

/-! ### The old-data read (R46 to R48, R136) -/

section oldData

variable {s : State} {k : Classification}

theorem exec_oldDataReadDone {a : Access} (out : s.inReset = false) (flying : s.port = some ⟨.classifier, a⟩)
    (reading : s.pwq.classifier = .reading k) (answer : ReadAnswer) :
    exec (.oldDataReadDone answer) s =
      .next (((s.answered answer.isError).oldDataAnswered k (s.answerWords a answer)).readItemDone
        (answer.isError == false)).settle := by
  refine (running_next s _ out).trans ?_
  rw [State.oldDataReadDone, (inFlightFor_eq_some _ _ _).2 flying, reading]

theorem oldDataAnswered_okay {before behind : List Entry} {e : Entry}
    (queue : s.pwq.entries = before ++ e :: behind) (classifying : e.stage = .classifying)
    (first : ∀ x ∈ before, x.stage ≠ .classifying) (old : List Word) :
    s.oldDataAnswered k (some old) = s.oldDataOkay k before.length e old := by
  have entry : s.pwq.entries[before.length]? = some e := by rw [queue, getElem?_between]
  rw [State.oldDataAnswered, firstIn_eq _ before behind e _ queue classifying first]
  simp only [entry]

theorem oldDataAnswered_error (classifying : ∃ e ∈ s.pwq.entries, e.stage = .classifying) :
    s.oldDataAnswered k none = (s.withClassifier (.held k)).report (s.oldReadReport k) := by
  unfold State.oldDataAnswered
  split
  · rename_i none
    obtain ⟨e, mem, stage⟩ := classifying
    rw [WriteQueue.firstIn, List.findIdx?_eq_none_iff] at none
    exact absurd stage (by simpa using none e mem)
  · split
    · rename_i words
      cases words
    · rfl

theorem oldDataAnswered_dropped (none : ∀ e ∈ s.pwq.entries, e.stage ≠ .classifying) (old : Option (List Word)) :
    s.oldDataAnswered k old =
      if old.isSome then s.withClassifier .idle else (s.withClassifier .idle).report (s.oldReadReport k) := by
  unfold State.oldDataAnswered
  rw [firstIn_none _ _ none]
  cases old <;> rfl

theorem oldDataOkay_elided {before behind : List Entry} {e : Entry} {old : List Word}
    (queue : s.pwq.entries = before ++ e :: behind) (elide : k.elide = true) (unchanged : e.unchangedBy old = true) :
    s.oldDataOkay k before.length e old =
      ((({ s with pwq := ⟨before ++ behind, .idle⟩ } : State).noteDeparture e.granule).bump .writesElided) := by
  rw [State.oldDataOkay, if_pos (by simp [elide, unchanged]), depart_eq _ before behind e queue]
  rfl

theorem oldDataOkay_recorded {before behind : List Entry} {e : Entry} {old : List Word}
    (queue : s.pwq.entries = before ++ e :: behind) (changed : k.elide = false ∨ ¬e.unchangedBy old = true) :
    s.oldDataOkay k before.length e old = (({ s with
      pwq := ⟨before ++ { e with stage := .waiting, recordSeq := some s.writer.nextSeq } :: behind, .idle⟩
      maps := s.maps.setTouch k.touch
      writer := s.writer.placed ⟨s.ctl.epochInEffect, s.writer.nextSeq, k.granule, k.region, k.master, old⟩ } :
      State).bump .recordsCreated) := by
  have record : ¬(k.elide && e.unchangedBy old) = true := by
    rw [Bool.and_eq_true, not_and_or, Bool.not_eq_true]
    exact changed
  rw [State.oldDataOkay, if_neg record, State.buildRecord]
  simp only [State.bump_pwq, State.withWriter_pwq, queue, set_between]
  rfl

/-- R74: the bank that a record enters. -/
theorem bankChosen_eq {w : JournalWriter} {b : Bool}
    (chosen : w.bankIn .filling = some b ∨ (w.bankIn .filling = none ∧ w.lastSealed = none ∧ b = false) ∨
      (w.bankIn .filling = none ∧ w.lastSealed = some (!b))) : w.bankChosen = b := by
  obtain filling | ⟨none, unsealed, rfl⟩ | ⟨none, sealed⟩ := chosen
  · rw [JournalWriter.bankChosen, filling]
  · rw [JournalWriter.bankChosen, none, unsealed]
  · rw [JournalWriter.bankChosen, none, sealed]
    exact Bool.not_not b

theorem setTouch_live {m : TouchMaps} (live : m.active.condition = .live) (touch : Nat) :
    m.setTouch touch = m.setMap m.activeIndex { m.active with setBits := insertBit touch m.active.setBits } :=
  if_pos live

theorem setTouch_other {m : TouchMaps} (not : m.active.condition ≠ .live) (touch : Nat) : m.setTouch touch = m :=
  if_neg not

theorem activeIndex_setMap (m : TouchMaps) (i : Bool) (t : TouchMap) : (m.setMap i t).activeIndex = m.activeIndex := by
  cases i <;> rfl

theorem active_setMap (m : TouchMaps) (t : TouchMap) : (m.setMap m.activeIndex t).active = t := by
  rw [TouchMaps.active, activeIndex_setMap, map_setMap]

theorem inactive_setMap (m : TouchMaps) (t : TouchMap) : (m.setMap m.activeIndex t).inactive = m.inactive := by
  rw [TouchMaps.inactive, activeIndex_setMap, map_setMap_not, TouchMaps.inactive]

end oldData

/-! ### Record writes and commit writes (R54, R55, R82 to R84, R91) -/

section writes

variable {s : State}

theorem exec_recordWriteDone {a : Access} {b : Bool} {r : JournalRecord} {rest : List JournalRecord}
    (out : s.inReset = false) (flying : s.port = some ⟨.journalWriter, a⟩)
    (flushing : s.writer.bankIn .flushing = some b) (records : (s.writer.bank b).records = r :: rest)
    (answer : WriteAnswer) : exec (.recordWriteDone answer) s =
      .next (if answer.isError then ((s.withMem (answeredMem s.mem a answer)).answered answer.isError).recordError b r
        else ((s.withMem (answeredMem s.mem a answer)).answered answer.isError).recordOkay b rest).settle := by
  refine (running_next s _ out).trans ?_
  rw [State.recordWriteDone, (inFlightFor_eq_some _ _ _).2 flying, flushing]
  simp only [records]

theorem exec_commitWriteDone {a : Access} {e : Entry} {rest : List Entry} (out : s.inReset = false)
    (flying : s.port = some ⟨.commitStage, a⟩) (queue : s.pwq.entries = e :: rest) (committing : e.stage = .committing)
    (answer : WriteAnswer) : exec (.commitWriteDone answer) s =
      .next (if answer.isError then
        (((s.withMem (answeredMem s.mem a answer)).answered answer.isError).depart 0).report (dataWriteReport e)
        else (((s.withMem (answeredMem s.mem a answer)).answered answer.isError).depart 0).bump
          .writesPerformed).settle := by
  refine (running_next s _ out).trans ?_
  rw [State.commitWriteDone, (inFlightFor_eq_some _ _ _).2 flying, queue]
  simp only [if_pos committing]

end writes

end Sys2Proof.Machine

namespace Sys2Proof.Proofs

open Sys2Proof Sys2Proof.Machine

/-- Settles O35: the attempt on an entry that leaves or becomes READY, by its class. -/
theorem takeDisposed : Obligations.TakeDisposed := by
  unfold Obligations.TakeDisposed
  intro before behind e s taken
  obtain ⟨out, idle, unfrozen, running, queue, unclassified, first⟩ := id taken
  dsimp only
  rw [exec_classifierTake taken, ← isNull_iff]
  refine ⟨fun closed => ?_, fun open_ => ⟨fun null => ?_, fun busy => ?_⟩, fun i touch elide journaled =>
    ⟨fun null => ?_, fun busy live touched => ?_⟩, fun granule u => ⟨_, rfl, fun i => ?_, rfl⟩⟩
  · rw [takeEntry_closed closed, takeDiscard_eq queue]
    rfl
  · rw [takeEntry_unprotected open_, if_pos null, takeElide_eq queue]
  · rw [takeEntry_unprotected open_, if_neg busy, takeReady_quietTest queue]
  · rw [takeEntry_journaled journaled, if_pos null, takeElide_eq queue]
  · rw [takeEntry_journaled journaled, if_neg busy, if_pos ((touched_iff _ _).2 ⟨live, touched⟩),
      takeReady_quietTest queue]
  · rw [noteDeparture_get]
    cases u.reads.slots[i] with
    | hazardWait k => exact afterDeparture_hazardWait _ _ k
    | _ => rfl

/-- Settles O36: the attempt on an entry that needs a record, by the room in the journal and in the banks. -/
theorem takeRecordPath : Obligations.TakeRecordPath := by
  unfold Obligations.TakeRecordPath
  intro before behind e s taken i touch elide journaled bytes untouched
  obtain ⟨out, idle, unfrozen, running, queue, unclassified, first⟩ := id taken
  have some_bytes : ¬e.isNull = true := by
    rw [isNull_iff]
    rintro null
    obtain ⟨w, mem, enabled⟩ := bytes
    exact enabled (null w mem)
  have unset : ¬s.maps.touched touch = true := by
    rw [touched_iff, not_and_or]
    exact untouched
  have entries : s.pwq.entries ≠ [] := by simp [queue]
  rw [exec_classifierTake taken, takeEntry_journaled journaled, if_neg some_bytes, if_neg unset]
  refine ⟨fun room => ⟨fun accepts => ?_, fun busy => ?_⟩, fun full => ?_⟩
  · rw [takeRecord_reads room ((canAccept_iff _).2 accepts) queue]
    exact congrArg _ (quietTest_of_entries _ (by simp))
  · rw [takeRecord_waits room (Bool.eq_false_iff.2 (mt (canAccept_iff _).1 ?_)), quietTest_of_entries _ entries]
    rintro (⟨b, filling, short⟩ | ⟨unfilled, empty⟩)
    · obtain ⟨c, same, long⟩ | ⟨none, -⟩ := busy
      · obtain rfl : b = c := Option.some.inj (filling.symm.trans same)
        omega
      · cases filling.symm.trans none
    · obtain ⟨c, same, -⟩ | ⟨-, none⟩ := busy
      · cases unfilled.symm.trans same
      · exact empty none
  · rw [takeRecord_full full, State.fullReport]
    refine ⟨fun armed => ?_, fun silent => ?_⟩
    · rw [if_pos armed]
      exact congrArg _ (quietTest_of_entries _ entries)
    · rw [if_neg (by simp [silent]), quietTest_of_entries _ entries]

/-- Settles O37: the two outcomes of the old data, the bank chosen and the touch bit. -/
theorem oldDataOkay : Obligations.OldDataOkay := by
  unfold Obligations.OldDataOkay
  intro before behind e k seen s out flying reading queue classifying first
  dsimp only
  have ruled := exec_oldDataReadDone out flying reading (.okay seen)
  let okay : State := s.withPort none
  rw [← unchangedBy_iff]
  refine ⟨fun elide unchanged => ?_, fun changed => ?_, fun b w r chosen => ?_, fun m touch => ?_⟩
  · exact ruled.trans (congrArg (fun t : State => Host.Outcome.next (t.readItemDone true).settle)
      ((oldDataAnswered_okay (s := okay) queue classifying first _).trans
        (oldDataOkay_elided (s := okay) queue elide unchanged)))
  · exact ruled.trans (congrArg (fun t : State => Host.Outcome.next (t.readItemDone true).settle)
      ((oldDataAnswered_okay (s := okay) queue classifying first _).trans
        (oldDataOkay_recorded (s := okay) queue changed)))
  · rw [JournalWriter.placed, bankChosen_eq chosen]
  · by_cases live : m.active.condition = .live
    · refine ⟨_, setTouch_live live touch, activeIndex_setMap _ _ _, ?_, ?_, fun _ j => ?_, fun not => absurd live not⟩
      · exact inactive_setMap m _
      · rw [active_setMap]
      · rw [active_setMap]
        exact mem_insertBit touch j _
    · exact ⟨m, setTouch_other live touch, rfl, rfl, rfl, fun now => absurd now live, fun _ => rfl⟩

/-- Settles O38: the failed read, and the answers for an entry that has gone. -/
theorem oldDataDropped : Obligations.OldDataDropped := by
  unfold Obligations.OldDataDropped
  intro k seen s out flying reading
  have ruled (answer : ReadAnswer) := exec_oldDataReadDone out flying reading answer
  let okay : State := s.withPort none
  let failed : State := okay.bump .memoryErrors
  refine ⟨fun classifying => ?_, fun gone => ⟨?_, ?_⟩⟩
  · exact (ruled _).trans (congrArg (fun t : State => Host.Outcome.next (t.readItemDone false).settle)
      (oldDataAnswered_error (s := failed) classifying))
  · exact (ruled _).trans (congrArg (fun t : State => Host.Outcome.next (t.readItemDone true).settle)
      (oldDataAnswered_dropped (s := okay) gone _))
  · exact (ruled _).trans (congrArg (fun t : State => Host.Outcome.next (t.readItemDone false).settle)
      (oldDataAnswered_dropped (s := failed) gone _))

/-- Settles O41: the answer to a record write, and the warning test by its level. -/
theorem recordWritten : Obligations.RecordWritten := by
  unfold Obligations.RecordWritten
  intro addr words b r rest s out flying flushing records
  have ruled (answer : WriteAnswer) := exec_recordWriteDone out flying flushing records answer
  refine ⟨fun more => ?_, fun last => ?_, fun left => ?_, fun u => ?_⟩
  · exact (ruled .okay).trans (congrArg (fun t : State => Host.Outcome.next t.settle) (if_neg more))
  · exact (ruled .okay).trans (congrArg (fun t : State => Host.Outcome.next t.settle) (if_pos last))
  · have bank : ({ s.writer.bank b with state := .flushFailed } : Bank) = ⟨.flushFailed, r :: rest⟩ := by
      rw [← records]
    rw [← bank]
    exact ruled (.error left)
  · intro level
    have level_eq : level = u.warnLevel := by
      dsimp only [level]
      unfold State.warnLevel
      cases u.ctl.geometry <;> cases u.writer.warnSetting <;> rfl
    rw [level_eq]
    refine ⟨fun armed set reached => warnTest_of_warns ⟨armed, set, reached⟩, fun not => warnTest_of_not ?_⟩
    rintro ⟨armed, set, reached⟩
    obtain unarmed | unset | unreached := not
    · rw [armed] at unarmed
      cases unarmed
    · exact set unset
    · omega

/-- Settles O42: the answer to a commit write, what it leaves of memory, and the notice of the departure. -/
theorem commitAnswered : Obligations.CommitAnswered := by
  unfold Obligations.CommitAnswered
  intro e rest s out queue committing flying
  have ruled (answer : WriteAnswer) := exec_commitWriteDone out flying queue committing answer
  let written (ans : WriteAnswer) : State :=
    (s.withMem (answeredMem s.mem (.write (32 * e.granule + 4 * e.first) e.data) ans)).answered ans.isError
  have left_queue (ans : WriteAnswer) : (written ans).depart 0 =
      ((written ans).withEntries rest).noteDeparture e.granule := by
    refine depart_eq _ [] rest e ?_
    cases ans <;> exact queue
  refine ⟨?_, fun left => ?_, fun ans t next a apart => ?_, fun granule u => ⟨_, rfl, fun i => ?_, rfl⟩⟩
  · exact (ruled .okay).trans
      (congrArg (fun t : State => Host.Outcome.next (t.bump .writesPerformed).settle) (left_queue .okay))
  · exact (ruled (.error left)).trans
      (congrArg (fun t : State => Host.Outcome.next (t.report (dataWriteReport e)).settle) (left_queue (.error left)))
  · have mem : t.mem = answeredMem s.mem (.write (32 * e.granule + 4 * e.first) e.data) ans := by
      cases next.symm.trans (ruled ans)
      rw [(settle_outer _).mem]
      cases ans with
      | okay => rw [if_neg (by decide), (bump_outer _ _).mem, (depart_outer _ _).mem]; rfl
      | error bytes =>
        rw [if_pos (show (WriteAnswer.error bytes).isError = true from rfl), (report_outer _ _).mem,
          (depart_outer _ _).mem]
        rfl
    rw [mem]
    exact readByte_answeredMem_ne _ _ _ _ apart
  · rw [noteDeparture_get]
    cases u.reads.slots[i] with
    | hazardWait k => exact afterDeparture_hazardWait _ _ k
    | _ => rfl

end Sys2Proof.Proofs
end

section
/-! The phases of the long operations, each as the outcome that the statements write out: the anchor phase, SWEEP_WAIT,
DRAIN, WALK, RESOLVE's end, REISSUE, the ends of an operation and of start-up, and the flip and retirement of the maps
(sections 4.4, 7.3 to 7.8, 8.1 to 8.3 of spec/). -/

namespace Sys2Proof.Machine

variable {s : State} {kind : OpKind} {g : Geometry}

/-! ### Anchors and SWEEP_WAIT (R65, R107, R110, R113, R117, R140) -/

theorem anchorGeometry_eq (running : s.ctl.op = some kind) (geometry : s.operationGeometry kind = some g) :
    s.ctl.anchorGeometry = g := by
  unfold EpochController.anchorGeometry
  rw [running]
  cases kind with
  | format => simp only [show s.ctl.formatArgs = some g from geometry]
  | resume => cases geometry
  | _ => exact congrArg (Option.getD · _) (show s.ctl.geometry = some g from geometry)

theorem enterAnchorPhase_begun (running : s.ctl.op = some kind) (geometry : s.operationGeometry kind = some g) :
    s.enterAnchorPhase = s.anchorBegun kind g := by
  obtain ⟨first, entered⟩ | ⟨next, entered⟩ := enterAnchorPhase_cases s
  · rw [running, Option.some_inj] at first
    rw [entered]
    unfold State.anchorBegun State.withPhase State.buildAnchor EpochController.nextGeneration EpochController.ending
    rw [anchorGeometry_eq running geometry, running]
    simp only [first, decide_true, if_true, and_true]
    cases kind with
    | resume => cases geometry
    | _ => rfl
  · rw [running, ne_eq, Option.some_inj] at next
    rw [entered]
    unfold State.anchorBegun State.withPhase State.buildAnchor EpochController.nextGeneration EpochController.ending
    rw [anchorGeometry_eq running geometry, running]
    simp only [next, or_self, decide_false, Bool.false_eq_true, if_false, and_false, or_false]
    cases kind with
    | resume => cases geometry
    | _ => rfl

theorem enterSweepWait_waits (s : State) : s.SweepWaitsTo s.enterSweepWait :=
  ⟨fun dirty => if_neg dirty, fun clean _ _ running geometry => (if_pos clean).trans
    (enterAnchorPhase_begun (s := s.withPhase .sweepWait .rest) running geometry)⟩

/-! ### DRAIN and WALK (R109, R138) -/

theorem drainTest_drains (s : State) : s.DrainsTo s.drainTest := by
  refine ⟨fun classified => if_neg fun drained => ?_, fun drained => ?_⟩
  · obtain ⟨e, mem, ne⟩ := classified
    exact ne ((drained_iff _).1 drained e mem)
  · rw [State.drainTest, if_pos ((drained_iff _).2 drained)]
    exact enterSweepWait_waits _

theorem enterWalk_walks (s : State) : s.WalksTo s.enterWalk := by
  refine ⟨fun d durable => ?_, fun none => ?_⟩
  · rw [State.enterWalk, if_neg (by omega), durable]
    rfl
  · rw [State.enterWalk, if_pos none]
    exact enterSweepWait_waits _

/-! ### RESOLVE's end (R87, R136, R137) -/

theorem recordWriteInFlight_iff (s : State) :
    s.recordWriteInFlight = true ↔ ∃ a, s.port = some ⟨.journalWriter, a⟩ := by
  unfold State.recordWriteInFlight
  rw [Option.isSome_iff_exists]
  exact exists_congr fun a => inFlightFor_eq_some s _ a

theorem recordWriteInFlight_false (landed : ∀ a, s.port ≠ some ⟨.journalWriter, a⟩) : s.recordWriteInFlight = false :=
  Bool.eq_false_iff.2 fun flying => ((recordWriteInFlight_iff s).1 flying).elim landed

theorem resolveTest_ends (s : State) : s.ResolveEndsTo s.resolveTest := by
  refine ⟨fun flying => ?_, fun landed => ?_⟩
  · have flies := (recordWriteInFlight_iff s).2 flying
    rw [State.resolveTest, State.trimTest, if_pos flies]
    exact if_neg fun ends => absurd ends.2.1 (by simp [flies])
  · have lands := recordWriteInFlight_false landed
    rw [State.resolveTest, State.trimTest, if_neg (by simp [lands])]
    refine ⟨fun busy => if_neg fun ends => busy.elim (· ends.1) (· ends.2.2), fun queue idle => ?_⟩
    have ended : (s.withWriter s.writer.trimmed).resolveEndTest =
        if s.ctl.countUnknown then (s.withWriter s.writer.trimmed).enterScan
        else (s.withWriter s.writer.trimmed).enterWalk := if_pos ⟨queue, lands, idle⟩
    rw [ended]
    refine ⟨fun unknown => ?_, fun known => ?_⟩
    · rw [if_pos unknown]; rfl
    · rw [if_neg (by simp [known])]
      exact enterWalk_walks _

/-! ### The ends of an operation and of start-up (R106, R120, R132) -/

theorem endOp_ended (running : s.ctl.op = some kind) (outcome : OpOutcome) :
    s.endOp outcome = s.opEnded kind outcome s.ctl.journal := endOp_some s outcome kind running

theorem endStart_ended (s : State) (j : JournalState) : s.endStart j = s.startEnded j := by
  unfold State.endStart State.startEnded
  by_cases ready : j = .ready
  · have unset : s.service.causes ||| 0x80 ||| 0 = s.service.causes ||| 0x80 := BitVec.or_zero
    simp only [ready, if_true, unset]; rfl
  · simp only [ready, if_false]; rfl

theorem stoppedWork_iff (s : State) :
    s.stoppedWork = true ↔ s.writer.bankIn .flushFailed ≠ none ∨ ∃ k, s.pwq.classifier = .held k := by
  unfold State.stoppedWork
  rw [Bool.or_eq_true, Option.isSome_iff_ne_none]
  refine or_congr_right ?_
  cases s.pwq.classifier <;> simp

/-! ### The maps (R61, R64, R66) -/

theorem sweeping_eq_none_iff (m : TouchMaps) :
    m.sweeping = none ↔ m.active.condition ≠ .sweeping ∧ m.inactive.condition ≠ .sweeping := by
  obtain ⟨index, map0, map1⟩ := m
  cases index <;> simp only [TouchMaps.sweeping, TouchMaps.active, TouchMaps.inactive, TouchMaps.map] <;>
    by_cases h : map0.condition = .sweeping <;> by_cases k : map1.condition = .sweeping <;> simp [h, k]

theorem flipped_flips {m : TouchMaps} (clean : m.inactive.condition = .clean) (live : m.active.condition = .live) :
    m.FlipsTo m.flipped := by
  have idle : m.sweeping = none := (sweeping_eq_none_iff m).2 (by simp [clean, live])
  unfold TouchMaps.flipped
  rw [idle]
  exact ⟨exchanged_index _ _ _, exchanged_active _ _ _, exchanged_inactive _ _ _⟩

theorem retired_retires (m : TouchMaps) : m.RetiresTo m.retired := by
  refine ⟨fun clean live => ?_, fun sweeping => ?_⟩
  · rw [TouchMaps.retired, clean]
    exact flipped_flips clean live
  · rw [TouchMaps.retired, sweeping]
    exact ⟨exchanged_index _ _ _, exchanged_active _ _ _, exchanged_inactive _ _ _⟩

/-! ### A failure into recovery (R66, R106, R116, R142) -/

theorem retireTest_maps (s : State) : s.retireTest = s.withMaps s.retireTest.maps := by
  unfold State.retireTest
  split <;> rfl

theorem failIntoRecovery_eq (running : s.ctl.op = some kind) : s.failIntoRecovery =
    { s.opEnded kind .failed .recoveryFault with
      maps := s.retireTest.maps, faults := { s.faults with haltedCause := none } } := by
  unfold State.failIntoRecovery
  rw [retireTest_maps s]
  exact endOp_some _ _ kind running

theorem failIntoRecovery_fails (s : State) : s.FailsTo s.failIntoRecovery := by
  intro kind running
  rw [failIntoRecovery_eq running]
  refine ⟨fun valid => ?_, fun notReady notHalted => ?_, rfl⟩
  · rw [State.retireTest, if_pos valid]
    exact retired_retires _
  · rw [State.retireTest, if_neg (not_or.2 ⟨notReady, notHalted⟩)]

end Sys2Proof.Machine
end

section
/-! The departures of one happening, in queue order: what RESOLVE and a failed clear cycle leave of the queue, the read
slots, the counters and the fault record (sections 7.5 and 8.3 of spec/). -/

namespace Sys2Proof.Machine

/-! ### The effects of a list of departures -/

theorem afterLeaving_nil (kept : List Entry) (sl : Slot) : sl.afterLeaving [] kept = sl := by
  cases sl <;> simp [Slot.afterLeaving]

theorem afterLeaving_cons (q : WriteQueue) (e : Entry) (rest : List Entry) (sl : Slot) :
    sl.afterLeaving (e :: rest) q.entries = (sl.afterDeparture q e.granule).afterLeaving rest q.entries := by
  cases sl with
  | hazardWait k =>
    rw [afterDeparture_hazardWait]
    by_cases leaves : k.addr.toNat / 32 = e.granule ∧ ∀ x ∈ q.entries, x.granule ≠ e.granule
    · obtain ⟨same, free⟩ := leaves
      rw [if_pos ⟨same, free⟩]
      exact if_pos ⟨⟨e, List.mem_cons_self, same.symm⟩, by rwa [same]⟩
    · rw [if_neg leaves]
      refine if_congr (and_congr_left fun free => ?_) rfl rfl
      have other : e.granule ≠ k.addr.toNat / 32 := fun same => leaves ⟨same.symm, by rwa [same]⟩
      simp [other]
  | _ => rfl

theorem satInc_toNat (w : Word) : (satInc w).toNat = min (w.toNat + 1) 4294967295 := by
  obtain ⟨full, same⟩ | ⟨room, next⟩ := satInc_cases w
  · rw [same, full]; rfl
  · have below : w.toNat ≠ 4294967295 := fun full => room (BitVec.eq_of_toNat_eq (by rw [full]; rfl))
    rw [next]
    bv_omega

theorem countedUp_zero (w : Word) : countedUp w 0 = w.toNat := by
  unfold countedUp
  omega

theorem countedUp_satInc (w : Word) (n : Nat) : countedUp (satInc w) n = countedUp w (n + 1) := by
  unfold countedUp
  rw [satInc_toNat]
  omega

/-- R169: the fault record after reports. -/
def FaultLogic.taking (f : FaultLogic) (reports : List FaultReport) : FaultLogic :=
  let later : List FaultReport := if f.record = none then reports.drop 1 else reports
  { f with
    record := if f.record = none then reports.head? else f.record
    laterFaults := if later = [] then f.laterFaults else min (f.laterFaults + later.length) 65535 }

theorem taking_nil (f : FaultLogic) : f.taking [] = f := by
  unfold FaultLogic.taking
  cases f with | mk record later cause hold pfquiet =>
  cases record <;> rfl

theorem recordFault_taking (s : State) (r : FaultReport) (rest : List FaultReport) :
    (s.recordFault r).faults.taking rest = s.faults.taking (r :: rest) := by
  unfold State.recordFault FaultLogic.taking State.setCause
  cases record : s.faults.record with
  | none => simp
  | some old =>
    cases rest with
    | nil => simp [record, Config.maxLaterFaults]
    | cons next rest =>
      have count (before : Nat) : min (min (before + 1) 65535 + (rest.length + 1)) 65535 =
          min (before + (rest.length + 1 + 1)) 65535 := by omega
      simp [record, Config.maxLaterFaults, count]

/-- R37, R39, R40, R149, R169: from `s` to `t` the entries `gone` have left the queue of `s`, with their counts and
reports. -/
structure State.Loses (s t : State) (gone : List Entry) (discarded elided : Nat) (reports : List FaultReport) :
    Prop where
  slots : ∀ i : Fin 4, t.reads.slots[i] = (s.reads.slots[i]).afterLeaving gone s.pwq.entries
  discards : (t.counter .writesDiscarded).toNat = countedUp (s.counter .writesDiscarded) discarded
  elisions : (t.counter .writesElided).toNat = countedUp (s.counter .writesElided) elided
  others : ∀ k : Counter, k ≠ .writesDiscarded → k ≠ .writesElided → t.counter k = s.counter k
  rest : t = { s with
    reads := { s.reads with slots := t.reads.slots }
    faults := s.faults.taking reports
    service := { s.service with causes := if reports = [] then s.service.causes else s.service.causes ||| 0x02 }
    counters := t.counters }

variable {s t : State} {gone : List Entry} {d n : Nat} {reports : List FaultReport}

theorem State.Loses.nothing (s : State) : s.Loses s [] 0 0 [] where
  slots i := (afterLeaving_nil _ _).symm
  discards := (countedUp_zero _).symm
  elisions := (countedUp_zero _).symm
  others _ _ _ := rfl
  rest := by rw [taking_nil]; rfl

theorem State.Loses.discard (e : Entry)
    (h : ((s.noteDeparture e.granule).bump .writesDiscarded).Loses t gone d n reports) :
    s.Loses t (e :: gone) (d + 1) n reports where
  slots i := by
    rw [afterLeaving_cons, ← noteDeparture_get]
    exact h.slots i
  discards := by
    rw [h.discards, bump_counter, countedUp_satInc]
    rfl
  elisions := by
    rw [h.elisions, bump_counter_ne _ (by decide)]
    rfl
  others k notDiscarded notElided := (h.others k notDiscarded notElided).trans
    (bump_counter_ne _ notDiscarded.symm)
  rest := h.rest

theorem State.Loses.elide (e : Entry) (h : ((s.noteDeparture e.granule).bump .writesElided).Loses t gone d n reports) :
    s.Loses t (e :: gone) d (n + 1) reports where
  slots i := by
    rw [afterLeaving_cons, ← noteDeparture_get]
    exact h.slots i
  discards := by
    rw [h.discards, bump_counter_ne _ (by decide)]
    rfl
  elisions := by
    rw [h.elisions, bump_counter, countedUp_satInc]
    rfl
  others k notDiscarded notElided := (h.others k notDiscarded notElided).trans
    (bump_counter_ne _ notElided.symm)
  rest := h.rest

theorem State.Loses.report {r : FaultReport} (h : (s.recordFault r).Loses t gone d n reports) :
    s.Loses t gone d n (r :: reports) where
  slots := h.slots
  discards := h.discards
  elisions := h.elisions
  others := h.others
  rest := by
    have faults := recordFault_taking s r reports
    have causes : (if reports = [] then (s.recordFault r).service.causes
        else (s.recordFault r).service.causes ||| 0x02) = s.service.causes ||| 0x02 := by
      have again : s.service.causes ||| 0x02 ||| 0x02 = s.service.causes ||| 0x02 := by
        rw [BitVec.or_assoc, BitVec.or_self]
      exact (ite_congr rfl (fun _ => rfl) fun _ => again).trans (ite_self _)
    refine h.rest.trans ?_
    rw [faults, causes]
    rfl

/-! ### RESOLVE's queue and a failed clear cycle (R116, R135) -/

/-- R39, R40, R135: the departures of a list of entries, each by its fate. -/
theorem chargeFate_loses (fate : Entry → Fate) (l : List Entry) (s : State) :
    s.Loses (l.foldl (fun acc e => acc.chargeFate e (fate e)) s)
      (l.filter fun e => (fate e).kept?.isNone)
      (l.filter fun e => fate e = .discard ∨ fate e = .tableDiscard).length
      (l.filter fun e => fate e = .elide).length
      ((l.filter fun e => fate e = .tableDiscard).map s.tableDiscardReport) := by
  induction l generalizing s with
  | nil => exact State.Loses.nothing s
  | cons e rest ih =>
    rw [List.foldl_cons]
    cases met : fate e with
    | discard =>
      simp only [List.filter_cons, met, Fate.kept?, Option.isNone_none, reduceCtorEq, or_false, decide_true, if_true,
        decide_false, Bool.false_eq_true, if_false, List.length_cons]
      exact State.Loses.discard e (ih _)
    | tableDiscard =>
      have taken : s.chargeFate e .tableDiscard =
          ((s.noteDeparture e.granule).bump .writesDiscarded).recordFault (s.tableDiscardReport e) :=
        report_recorded _ (s.tableDiscardReport e) (show FaultKind.tableDiscard ≠ .oldRead by decide)
          (show FaultKind.tableDiscard ≠ .flush by decide)
      simp only [List.filter_cons, met, Fate.kept?, Option.isNone_none, reduceCtorEq, false_or, decide_true, if_true,
        decide_false, Bool.false_eq_true, if_false, List.length_cons, List.map_cons]
      rw [taken]
      exact State.Loses.discard e (State.Loses.report (ih _))
    | elide =>
      simp only [List.filter_cons, met, Fate.kept?, Option.isNone_none, reduceCtorEq, or_self, decide_true, if_true,
        decide_false, Bool.false_eq_true, if_false, List.length_cons]
      exact State.Loses.elide e (ih _)
    | keep kept =>
      simp only [List.filter_cons, met, Fate.kept?, Option.isNone_some, reduceCtorEq, or_self,
        decide_false, Bool.false_eq_true, if_false]
      exact ih s

theorem discardLost_loses (s : State) :
    (s.withEntries (s.pwq.entries.filter fun e => !s.lostToClear e)).Loses s.discardLost
      (s.pwq.entries.filter s.lostToClear) (s.pwq.entries.filter s.lostToClear).length 0 [] := by
  have discarded := chargeFate_loses (fun _ => .discard) (s.pwq.entries.filter s.lostToClear)
    (s.withEntries (s.pwq.entries.filter fun e => !s.lostToClear e))
  simp only [Fate.kept?, Option.isNone_none, List.filter_true, reduceCtorEq, or_false, decide_true, decide_false,
    List.filter_false, List.length_nil, List.map_nil] at discarded
  exact discarded

theorem cycleFailed_fails (s : State) : s.CycleFailsTo s.cycleFailed := by
  have lost_eq : s.lostToClear = fun e =>
      decide (e.stage = .unclassified ∧ (s.classOf e.granule).isJournaled = true) := by
    funext e
    simp only [State.lostToClear, Bool.decide_and, Bool.decide_eq_true]
    rfl
  refine ⟨fun starting => ?_, fun operating running => ⟨s.discardLost, ?_, ?_, fun i => ?_, ?_, fun k ne => ?_, ?_⟩⟩
  · rw [State.cycleFailed, if_pos starting]
    exact endStart_ended _ _
  · rw [State.cycleFailed, if_neg operating]
    exact failIntoRecovery_fails _
  · rw [discardLost_pwq, lost_eq]
  · have slots := (discardLost_loses s).slots i
    rw [discardLost_pwq]
    rw [lost_eq] at slots ⊢
    exact slots
  · have discards := (discardLost_loses s).discards
    rw [lost_eq] at discards
    exact discards
  · by_cases elided : k = .writesElided
    · have elisions := (discardLost_loses s).elisions
      rw [countedUp_zero] at elisions
      rw [elided]
      exact BitVec.eq_of_toNat_eq elisions
    · exact (discardLost_loses s).others k ne elided
  · refine (discardLost_loses s).rest.trans ?_
    rw [taking_nil, discardLost_pwq]
    rfl

section fates

variable {s : State} {e : Entry}

theorem fateOf_journaled (journaled : (s.classOf e.granule).isJournaled = true) : s.fateOf e = .discard := by
  unfold State.fateOf
  cases found : s.classOf e.granule with
  | journaled => rfl
  | _ => rw [found] at journaled; cases journaled

theorem fateOf_closed (unclassified : e.stage = .unclassified)
    (notJournaled : (s.classOf e.granule).isJournaled = false)
    (protects : s.classOf e.granule ≠ .unprotected) : s.fateOf e = .tableDiscard := by
  unfold State.fateOf
  rw [unclassified]
  cases found : s.classOf e.granule with
  | journaled => rw [found] at notJournaled; cases notJournaled
  | unprotected => exact absurd found protects
  | _ => rfl

theorem fateOf_null (unclassified : e.stage = .unclassified) (unprotected : s.classOf e.granule = .unprotected)
    (null : ∀ w ∈ e.data, w.2 = 0) : s.fateOf e = .elide := by
  unfold State.fateOf
  rw [unclassified, unprotected]
  exact if_pos ((isNull_iff e).2 null)

theorem fateOf_ready (unclassified : e.stage = .unclassified) (unprotected : s.classOf e.granule = .unprotected)
    (notNull : ¬∀ w ∈ e.data, w.2 = 0) :
    s.fateOf e = .keep { e with stage := .ready, classEpoch := some s.ctl.epochInEffect } := by
  unfold State.fateOf
  rw [unclassified, unprotected]
  exact if_neg (mt (isNull_iff e).1 notNull)

theorem fateOf_classified (classified : e.stage ≠ .unclassified)
    (notJournaled : (s.classOf e.granule).isJournaled = false) : s.fateOf e = .keep e := by
  unfold State.fateOf
  cases found : s.classOf e.granule with
  | journaled => rw [found] at notJournaled; cases notJournaled
  | _ =>
    cases stage : e.stage with
    | unclassified => exact absurd stage classified
    | _ => rfl

end fates

/-- R135: RESOLVE discards an entry whose place is closed. -/
def State.closes (s : State) (e : Entry) : Bool :=
  e.stage = .unclassified ∧ (s.classOf e.granule).isJournaled = false ∧ s.classOf e.granule ≠ .unprotected

/-- R40, R135: RESOLVE elides a null write. -/
def State.elides (s : State) (e : Entry) : Bool :=
  e.stage = .unclassified ∧ s.classOf e.granule = .unprotected ∧ ∀ w ∈ e.data, w.2 = 0

/-- R135: RESOLVE takes an entry from the queue. -/
def State.removes (s : State) (e : Entry) : Bool :=
  (s.classOf e.granule).isJournaled || s.closes e || s.elides e

/-- R135: an entry that RESOLVE keeps. -/
def State.resolved (s : State) (e : Entry) : Entry :=
  if e.stage = .unclassified then { e with stage := .ready, classEpoch := some s.ctl.epochInEffect } else e

/-- R135: the fates are told apart by the three conditions. -/
theorem fateOf_told (s : State) (e : Entry) :
    ((s.fateOf e).kept? = if s.removes e then none else some (s.resolved e)) ∧
      (decide (s.fateOf e = .discard ∨ s.fateOf e = .tableDiscard) =
        ((s.classOf e.granule).isJournaled || s.closes e)) ∧
      (decide (s.fateOf e = .elide) = s.elides e) ∧ decide (s.fateOf e = .tableDiscard) = s.closes e := by
  unfold State.removes State.resolved State.closes State.elides
  by_cases journaled : (s.classOf e.granule).isJournaled = true
  · have protects : s.classOf e.granule ≠ .unprotected := fun h => by rw [h] at journaled; cases journaled
    simp [fateOf_journaled journaled, journaled, protects, Fate.kept?]
  · rw [Bool.not_eq_true] at journaled
    by_cases unclassified : e.stage = .unclassified
    · by_cases unprotected : s.classOf e.granule = .unprotected
      · by_cases null : ∀ w ∈ e.data, w.2 = 0
        · simp only [fateOf_null unclassified unprotected null, unclassified, unprotected, eq_true null]
          simp [GranuleClass.isJournaled, Fate.kept?]
        · simp only [fateOf_ready unclassified unprotected null, unclassified, unprotected, eq_false null]
          simp [GranuleClass.isJournaled, Fate.kept?]
      · simp [fateOf_closed unclassified journaled unprotected, journaled, unclassified, unprotected, Fate.kept?]
    · simp [fateOf_classified unclassified journaled, journaled, unclassified, Fate.kept?]

theorem fateOf_kept (s : State) (e : Entry) :
    (s.fateOf e).kept? = if s.removes e then none else some (s.resolved e) := (fateOf_told s e).1

theorem resolveQueue_entries (s : State) :
    s.resolveQueue.pwq.entries = (s.pwq.entries.filter fun e => !s.removes e).map s.resolved := by
  rw [resolveQueue_pwq, ← List.filterMap_eq_map', List.filterMap_filter]
  refine List.filterMap_congr fun e _ => ?_
  rw [fateOf_kept]
  cases s.removes e <;> rfl

theorem resolveQueue_loses (s : State) :
    (s.withEntries s.resolveQueue.pwq.entries).Loses s.resolveQueue (s.pwq.entries.filter s.removes)
      (s.pwq.entries.filter fun e => (s.classOf e.granule).isJournaled || s.closes e).length
      (s.pwq.entries.filter s.elides).length ((s.pwq.entries.filter s.closes).map s.tableDiscardReport) := by
  have left : (fun e => (s.fateOf e).kept?.isNone) = s.removes := funext fun e => by
    rw [fateOf_kept]
    cases s.removes e <;> rfl
  have discarded := funext fun e => (fateOf_told s e).2.1
  have elided := funext fun e => (fateOf_told s e).2.2.1
  have reported := funext fun e => (fateOf_told s e).2.2.2
  have loses := chargeFate_loses s.fateOf s.pwq.entries (s.withEntries s.resolveQueue.pwq.entries)
  rw [left, discarded, elided, reported] at loses
  have resolved : s.resolveQueue = s.pwq.entries.foldl (fun acc e => acc.chargeFate e (s.fateOf e))
      (s.withEntries s.resolveQueue.pwq.entries) := by
    rw [resolveQueue_pwq]
    rfl
  rw [← resolved] at loses
  exact loses

theorem resolveQueue_resolves (s : State) : s.QueueResolvesTo s.resolveQueue where
  left := resolveQueue_entries s
  right := by
    have loses := resolveQueue_loses s
    exact ⟨loses.slots, loses.discards, loses.elisions, loses.others, loses.rest⟩

theorem enterResolve_resolves (s : State) : s.ResolvesTo s.enterResolve := by
  have queue := resolveQueue_resolves (s.withPhase .resolve .rest)
  have port : (s.withPhase .resolve .rest).resolveQueue.port = s.port := (resolveQueue_outer _).port
  have writer : (s.withPhase .resolve .rest).resolveQueue.writer = s.writer := by
    rw [queue.2.2.2.2.2]
    rfl
  have pwq : (s.withPhase .resolve .rest).resolveQueue.pwq.classifier = s.pwq.classifier := by
    rw [resolveQueue_pwq]
    rfl
  refine ⟨_, (s.withPhase .resolve .rest).resolveQueue.resolveClassifier.pwq.classifier, queue, ?_, ?_, ?_⟩
  · rintro ⟨a, flying⟩
    rw [State.resolveClassifier, if_pos, pwq]
    rw [(inFlightFor_eq_some _ _ a).2 (port.trans flying)]
    rfl
  · intro landed
    rw [State.resolveClassifier, if_neg]
    · rfl
    · rw [Option.isSome_iff_exists]
      rintro ⟨a, flying⟩
      exact landed a (port.symm.trans ((inFlightFor_eq_some _ _ a).1 flying))
  · have ends := resolveTest_ends ((s.withPhase .resolve .rest).resolveQueue.resolveClassifier.withWriter
      { (s.withPhase .resolve .rest).resolveQueue.resolveClassifier.writer with
        coalesceTimer := none, coalesceDemand := false })
    have same : (s.withPhase .resolve .rest).resolveQueue.resolveClassifier =
        (s.withPhase .resolve .rest).resolveQueue.withClassifier
          (s.withPhase .resolve .rest).resolveQueue.resolveClassifier.pwq.classifier := by
      unfold State.resolveClassifier
      split <;> rfl
    unfold State.enterResolve
    dsimp only
    convert ends using 1
    rw [← writer]
    conv_rhs => rw [same]
    rfl

end Sys2Proof.Machine
end

section
/-! The tests of the write path and the phases they end (sections 3.4, 5.3 to 5.5, 7.4, 7.8, 8.3, 11.3 of spec/), and
the sweeps of the touch maps (section 4.4). -/

namespace Sys2Proof.Machine

variable {s : State}

/-! ### The head and the coalesce timer (R53, R78) -/

theorem examineHead_durable {e : Entry} {rest : List Entry} {q : Nat} (queue : s.pwq.entries = e :: rest)
    (waiting : e.stage = .waiting) (seq : e.recordSeq = some q) (durable : q < s.writer.durable) :
    s.examineHead = s.withEntries ({ e with stage := .ready } :: rest) := by
  rw [State.examineHead, queue]
  exact congrArg s.withEntries (if_pos ⟨waiting, by simp [seq, durable]⟩)

theorem examineHead_stays {e : Entry} {rest : List Entry} (queue : s.pwq.entries = e :: rest)
    (stays : ¬(e.stage = .waiting ∧ e.recordSeq.any (fun q => q < s.writer.durable) = true)) : s.examineHead = s := by
  rw [State.examineHead, queue]
  refine (congrArg s.withEntries (if_neg stays)).trans ?_
  rw [← queue]
  rfl

theorem headAwaitsFilling_iff (s : State) : s.headAwaitsFilling = true ↔
    ∃ e rest q b, s.pwq.entries = e :: rest ∧ e.stage = .waiting ∧ e.recordSeq = some q ∧
      s.writer.bankIn .filling = some b ∧ ∃ r ∈ (s.writer.bank b).records, r.seq = q := by
  unfold State.headAwaitsFilling
  cases queue : s.pwq.entries with
  | nil => simp
  | cons e rest =>
    cases filling : s.writer.bankIn .filling with
    | none => simp
    | some b =>
      cases seq : e.recordSeq with
      | none => simp [seq]
      | some q => simp [seq, and_comm, eq_comm (a := q)]

theorem coalesceTest_stays
    (stays : s.writer.coalesceTimer ≠ none ∨ s.writer.coalesceDemand = true ∨ s.headAwaitsFilling = false) :
    s.coalesceTest = s := by
  refine if_neg ?_
  obtain running | demanded | elsewhere := stays
  · simp [running]
  · simp [demanded]
  · simp [elsewhere]

theorem coalesceTest_starts (awaits : s.headAwaitsFilling = true) (stopped : s.writer.coalesceTimer = none)
    (undemanded : s.writer.coalesceDemand = false) : s.coalesceTest =
      if s.writer.coalesceTime = 0 then s.coalesceExpired
      else s.withWriter { s.writer with coalesceTimer := some s.writer.coalesceTime } :=
  if_pos (by simp [awaits, stopped, undemanded])

/-! ### The phase of the operation (R104) -/

theorem advance_freeze (phase : s.ctl.phase = .freeze) : s.advance = s.freezeTest := by rw [State.advance, phase]

theorem advance_drain (phase : s.ctl.phase = .drain) : s.advance = s.drainTest := by rw [State.advance, phase]

theorem advance_quiesce (phase : s.ctl.phase = .quiesce) : s.advance = s.quiesceTest := by rw [State.advance, phase]

theorem advance_resolve (phase : s.ctl.phase = .resolve) : s.advance = s.resolveTest := by rw [State.advance, phase]

theorem advance_reissue (phase : s.ctl.phase = .reissue) : s.advance = s.resumeTest := by rw [State.advance, phase]

theorem advance_other (other : s.ctl.phase ∉ [Phase.freeze, .drain, .quiesce, .resolve, .reissue]) : s.advance = s := by
  unfold State.advance
  cases phase : s.ctl.phase <;> simp [phase] at other ⊢

theorem freezeTest_drains (idle : s.pwq.classifier = .idle) :
    State.DrainsTo { s with ctl := { s.ctl with phase := .drain, work := .rest, drain := true } }.sealTest
      s.freezeTest := by
  rw [State.freezeTest, if_pos idle]
  exact drainTest_drains _

theorem quiesceTest_waits (flying : ∃ a, s.port = some ⟨.commitStage, a⟩) : s.quiesceTest = s := by
  obtain ⟨a, flies⟩ := flying
  refine if_pos ?_
  rw [(inFlightFor_eq_some _ _ a).2 flies]
  rfl

theorem quiesceTest_resolves (landed : ∀ a, s.port ≠ some ⟨.commitStage, a⟩) : s.quiesceTest = s.enterResolve := by
  refine if_neg ?_
  rw [Option.isSome_iff_exists]
  rintro ⟨a, flies⟩
  exact landed a ((inFlightFor_eq_some _ _ a).1 flies)

theorem quiesceTest_resolvesTo (landed : ∀ a, s.port ≠ some ⟨.commitStage, a⟩) : s.ResolvesTo s.quiesceTest := by
  rw [quiesceTest_resolves landed]
  exact enterResolve_resolves s

theorem resumeTest_waits (outstanding : s.ctl.resumeFlush = .outstanding ∨ s.ctl.resumeRead = .outstanding) :
    s.resumeTest = s := if_pos outstanding

section reissued

variable {kind : OpKind} (flushed : s.ctl.resumeFlush ≠ .outstanding) (answered : s.ctl.resumeRead ≠ .outstanding)
  (running : s.ctl.op = some kind)

include flushed answered running

theorem resumeTest_failed (failed : s.ctl.resumeFlush = .failed ∨ s.ctl.resumeRead = .failed) :
    s.resumeTest = s.opEnded kind .failed s.ctl.journal := by
  rw [State.resumeTest, if_neg (not_or.2 ⟨flushed, answered⟩), if_pos failed]
  exact endOp_ended running _

theorem resumeTest_stopped (flushes : s.ctl.resumeFlush ≠ .failed) (reads : s.ctl.resumeRead ≠ .failed)
    (stands : s.stoppedWork = true) : s.resumeTest = s.opEnded kind .success s.ctl.journal := by
  rw [State.resumeTest, if_neg (not_or.2 ⟨flushed, answered⟩), if_neg (not_or.2 ⟨flushes, reads⟩), if_pos stands]
  exact endOp_ended running _

theorem resumeTest_ready (flushes : s.ctl.resumeFlush ≠ .failed) (reads : s.ctl.resumeRead ≠ .failed)
    (stands : s.stoppedWork = false) : s.resumeTest =
      { s.opEnded kind .success .ready with faults := { s.faults with haltedCause := none } } := by
  rw [State.resumeTest, if_neg (not_or.2 ⟨flushed, answered⟩), if_neg (not_or.2 ⟨flushes, reads⟩),
    if_neg (by simp [stands])]
  exact endOp_some _ _ kind running

end reissued

theorem resumeItem_completed (i : ResumeItem) (ok : Bool) :
    i.completed ok = if i = .outstanding then (if ok then .succeeded else .failed) else i := by
  cases i <;> rfl

/-! ### The end of a sweep (R61, R65, R68) -/

theorem sweeping_of_first {m : TouchMaps} {i : Bool} (sweeping : (m.map i).condition = .sweeping)
    (first : i = true → m.map0.condition ≠ .sweeping) : m.sweeping = some i := by
  cases i with
  | false => exact if_pos sweeping
  | true => exact (if_neg (first rfl)).trans (if_pos sweeping)

theorem sweepEnded_eq {m : TouchMaps} {i : Bool} (sweeping : m.sweeping = some i) : m.sweepEnded =
    if (m.map (!i)).condition = .dirty then
      (m.setMap i (TouchMap.sweptClean (i == m.activeIndex))).setMap (!i) ⟨[], .sweeping⟩
    else m.setMap i (TouchMap.sweptClean (i == m.activeIndex)) := by
  unfold TouchMaps.sweepEnded
  rw [sweeping]
  dsimp only
  rw [map_setMap_not]
  rfl

theorem sweepEnded_activeIndex (m : TouchMaps) : m.sweepEnded.activeIndex = m.activeIndex := by
  cases sweeping : m.sweeping with
  | none => rw [TouchMaps.sweepEnded, sweeping]
  | some i =>
    rw [sweepEnded_eq sweeping]
    split <;> simp only [activeIndex_setMap]

theorem sweepEnded_map {m : TouchMaps} {i : Bool} (sweeping : m.sweeping = some i) :
    m.sweepEnded.map i = ⟨[], if i = m.activeIndex then .live else .clean⟩ := by
  have swept : TouchMap.sweptClean (i == m.activeIndex) = ⟨[], if i = m.activeIndex then .live else .clean⟩ := by
    cases i <;> cases m.activeIndex <;> rfl
  have kept (n : TouchMaps) (t : TouchMap) : (n.setMap (!i) t).map i = n.map i := by cases i <;> rfl
  rw [sweepEnded_eq sweeping]
  split
  · rw [kept, map_setMap, swept]
  · rw [map_setMap, swept]

theorem sweepEnded_map_not {m : TouchMaps} {i : Bool} (sweeping : m.sweeping = some i) : m.sweepEnded.map (!i) =
    if (m.map (!i)).condition = .dirty then ⟨[], .sweeping⟩ else m.map (!i) := by
  rw [sweepEnded_eq sweeping]
  split
  · rw [map_setMap]
  · rw [map_setMap_not]

theorem exec_sweepEnd {i : Bool} (out : s.inReset = false) (sweeping : s.maps.sweeping = some i) :
    exec .sweepEnd s = .next (s.withMaps s.maps.sweepEnded).sweepFollows := by
  refine (running_next s _ out).trans ?_
  rw [sweeping]
  rfl

theorem sweepFollows_mapSweep (phase : s.ctl.phase = .mapSweep) : s.sweepFollows = s.mapSweepTest := by
  rw [State.sweepFollows, phase]

theorem sweepFollows_sweepWait (phase : s.ctl.phase = .sweepWait) : s.sweepFollows = s.sweepWaitTest := by
  rw [State.sweepFollows, phase]

theorem sweepFollows_other (notWait : s.ctl.phase ≠ .sweepWait) (notSweep : s.ctl.phase ≠ .mapSweep) :
    s.sweepFollows = s := by
  unfold State.sweepFollows
  cases phase : s.ctl.phase with
  | mapSweep => exact absurd phase notSweep
  | sweepWait => exact absurd phase notWait
  | _ => rfl

end Sys2Proof.Machine

namespace Sys2Proof.Proofs

open Sys2Proof Sys2Proof.Machine

/-- Settles O39: the tests one by one, and the phase they end by what ends it. -/
theorem writePathTests : Obligations.WritePathTests := by
  unfold Obligations.WritePathTests
  intro s
  refine ⟨fun e rest q queue waiting seq => ⟨examineHead_durable queue waiting seq, fun late => ?_⟩,
    fun e rest queue other => examineHead_stays queue fun waits => other waits.1,
    fun b filling => ⟨fun empty open_ wanted => ?_, fun stays => ?_⟩,
    fun absent => sealTest_of_not fun b seals => ?_,
    fun e rest q b r queue waiting seq filling mem own stopped undemanded => ?_, fun stays => ?_, rfl,
    fun out hold queue bank0 bank1 idle low => ?_, fun stays => ?_,
    fun phase => ⟨fun busy => (advance_freeze phase).trans (if_neg busy), fun idle => ?_⟩, fun phase => ?_,
    fun phase => ⟨fun flying => (advance_quiesce phase).trans (quiesceTest_waits flying), fun landed => ?_⟩,
    fun phase => ?_, fun phase => ?_, advance_other, fun ok => ⟨?_, ?_⟩⟩
  · exact examineHead_stays queue fun durable => by simp [seq] at durable; omega
  · exact (sealTest_of_seals ⟨filling, empty, open_, (sealWanted_iff _ _).2 wanted⟩).trans (by cases b <;> rfl)
  · refine sealTest_of_not fun b' seals => ?_
    obtain ⟨filling', empty, open_, wanted⟩ := seals
    cases filling.symm.trans filling'
    obtain full | resolving | ⟨below, undemanded, undrained, unheld, notFull⟩ := stays
    · exact full empty
    · rw [open_] at resolving; cases resolving
    · rw [sealWanted_iff, undemanded, undrained, unheld] at wanted
      simp [notFull] at wanted
      omega
  · cases absent.symm.trans seals.1
  · have starts := coalesceTest_starts
      ((headAwaitsFilling_iff s).2 ⟨e, rest, q, b, queue, waiting, seq, filling, r, mem, own⟩) stopped undemanded
    refine ⟨fun later => starts.trans (if_neg later), fun once => starts.trans ((if_pos once).trans ?_)⟩
    have same : s.withWriter { s.writer with coalesceTimer := Option.none, coalesceDemand := true } =
        { s with writer := { s.writer with coalesceDemand := true } } := by rw [State.withWriter, ← stopped]
    exact congrArg State.sealTest same
  · refine coalesceTest_stays ?_
    rw [← Bool.not_eq_true, headAwaitsFilling_iff]
    obtain running | demanded | noFilling | empty | ⟨e, rest, queue, elsewhere⟩ := stays
    · exact .inl running
    · exact .inr (.inl demanded)
    · refine .inr (.inr ?_)
      rintro ⟨_, _, _, _, _, _, _, filling, _⟩
      rw [noFilling] at filling; cases filling
    · refine .inr (.inr ?_)
      rintro ⟨_, _, _, _, queue, _⟩
      rw [empty] at queue; cases queue
    · refine .inr (.inr ?_)
      rintro ⟨_, _, q, b, queue', waiting, seq, filling, r, mem, own⟩
      cases queue.symm.trans queue'
      obtain other | noSeq | ⟨q', b', seq', filling', apart⟩ := elsewhere
      · exact other waiting
      · rw [noSeq] at seq; cases seq
      · cases seq.symm.trans seq'
        cases filling.symm.trans filling'
        exact apart r mem own
  · exact quietTest_rises
      ((quiet_iff s).2 ⟨out, hold, queue, by simp [JournalWriter.banksEmpty, bank0, bank1], idle⟩) low
  · obtain same | ⟨-, quiet, low⟩ := quietTest_cases s
    · exact same.1
    · obtain ⟨out, hold, queue, banks, idle⟩ := (quiet_iff s).1 quiet
      simp only [JournalWriter.banksEmpty, Bool.and_eq_true, beq_iff_eq] at banks
      simp [out, hold, queue, banks, idle, low] at stays
  · rw [advance_freeze phase]
    exact freezeTest_drains idle
  · rw [advance_drain phase]
    exact drainTest_drains s
  · rw [advance_quiesce phase]
    exact quiesceTest_resolvesTo landed
  · rw [advance_resolve phase]
    exact resolveTest_ends s
  · rw [advance_reissue phase]
    refine ⟨resumeTest_waits, fun flushed answered kind running => ⟨resumeTest_failed flushed answered running,
      fun flushes reads => ⟨fun stands => ?_, fun none => ?_⟩⟩⟩
    · exact resumeTest_stopped flushed answered running flushes reads ((stoppedWork_iff s).2 stands)
    · exact resumeTest_ready flushed answered running flushes reads
        (Bool.eq_false_iff.2 fun stands => none ((stoppedWork_iff s).1 stands))
  · rw [State.flushItemDone, resumeItem_completed]
  · rw [State.readItemDone, resumeItem_completed]

/-- Settles O44: the maps by the sweep that ended, and the phase that waited for it. -/
theorem sweepEnds : Obligations.SweepEnds := by
  unfold Obligations.SweepEnds
  intro i s out sweeping first
  have swept := sweeping_of_first sweeping first
  have ruled := exec_sweepEnd out swept
  refine ⟨fun kind g => enterAnchorPhase_begun, s.maps.sweepEnded, sweepEnded_activeIndex _, sweepEnded_map swept,
    sweepEnded_map_not swept, fun notWait notSweep => ?_, fun phase => ?_, fun phase => ?_⟩
  · rw [ruled]
    exact congrArg Host.Outcome.next (sweepFollows_other (s := s.withMaps s.maps.sweepEnded) notWait notSweep)
  · rw [ruled, sweepFollows_sweepWait (s := s.withMaps s.maps.sweepEnded) phase]
    exact ⟨fun dirty => congrArg Host.Outcome.next (if_neg dirty),
      fun clean => congrArg Host.Outcome.next (if_pos clean)⟩
  · rw [ruled, sweepFollows_mapSweep (s := s.withMaps s.maps.sweepEnded) phase]
    exact ⟨fun live clean => congrArg Host.Outcome.next (if_pos ⟨live, clean⟩), fun unswept =>
      congrArg Host.Outcome.next (if_neg fun both => unswept.elim (· both.1) (· both.2))⟩

end Sys2Proof.Proofs
end

section
/-! How the long operations begin (sections 7.3 to 7.8 and 8.3 of spec/). -/

namespace Sys2Proof.Machine

variable {s : State}

/-! ### The rules of the admitted commands (R105) -/

theorem opRefusal_opens {kind : OpKind} (opens : s.opensOperations) (state : s.admits kind = true) (tag : Byte)
    (c : ServiceCommand) : (s.heard tag c).opRefusal kind = none :=
  (opRefusal_eq_none _ _).2 ⟨opens.2.1, opens.2.2, state⟩

theorem checkpointRule_accepted {g : Geometry} (opens : s.opRefusal .checkpoint = none)
    (geometry : s.ctl.geometry = some g) (legal : s.regions.staged.legal g = true) : s.checkpointRule =
      ⟨((s.admitted .checkpoint none).frozenIn .freeze).freezeTest, .accepted, []⟩ := by
  rw [State.checkpointRule, opens]
  exact if_pos ((stagedLegal_iff _ _).2 ⟨g, geometry, legal⟩)

theorem adoptRule_accepted {g : Geometry} (opens : s.opRefusal .adopt = none)
    (geometry : s.ctl.geometry = some g) (legal : s.regions.staged.legal g = true) : s.adoptRule =
      ⟨(s.admitted .adopt none).enterSweepWait, .accepted, []⟩ := by
  rw [State.adoptRule, opens]
  exact if_pos ((stagedLegal_iff _ _).2 ⟨g, geometry, legal⟩)

theorem formatRule_accepted {base size : Word} (opens : s.opRefusal .format = none)
    (legal : Geometry.legal ⟨base.toNat, size.toNat⟩ = true)
    (fits : s.regions.staged.legal ⟨base.toNat, size.toNat⟩ = true) : s.formatRule base size =
      ⟨((s.admitted .format (some ⟨base.toNat, size.toNat⟩)).frozenIn .freeze).freezeTest, .accepted, []⟩ := by
  rw [State.formatRule, opens]
  exact (if_pos legal).trans (if_pos fits)

theorem rollbackRule_accepted (opens : s.opRefusal .rollback = none) : s.rollbackRule =
    ⟨(((s.admitted .rollback none).frozenIn .quiesce).freeAllSlots).quiesceTest, .accepted, []⟩ := by
  rw [State.rollbackRule, opens]

theorem resumeRule_accepted (opens : s.opRefusal .resume = none) : s.resumeRule =
    ⟨(((s.admitted .resume none).withPhase .reissue .rest).resumeFlushes.resumeReads).resumeTest, .accepted, []⟩ := by
  rw [State.resumeRule, opens]

/-! ### FREEZE and DRAIN as they begin (R49, R80, R108, R109) -/

/-- R80, R109: DRAIN is entered with its demand, and the FILLING bank is sealed beside an EMPTY one. -/
theorem drain_seals (notRollback : s.ctl.op ≠ some .rollback) : ∃ writer counters,
    ((s.withPhase .drain .rest).withDrain true).sealTest =
        { s with
          ctl := { s.ctl with phase := .drain, work := .rest, drain := true }
          writer := writer, counters := counters } ∧
      ((∀ b : Bool, s.writer.bankIn .filling = some b → (s.writer.bank (!b)).state ≠ .empty) →
        writer = s.writer ∧ counters = s.counters) ∧
      ∀ b : Bool, s.writer.bankIn .filling = some b → (s.writer.bank (!b)).state = .empty →
        writer = s.writer.sealed b ∧ counters = (s.bump .flushes).counters := by
  by_cases seals : ∃ b, s.writer.bankIn .filling = some b ∧ (s.writer.bank (!b)).state = .empty
  · obtain ⟨b, filling, empty⟩ := seals
    have sealed : ((s.withPhase .drain .rest).withDrain true).Seals b :=
      ⟨filling, empty, (resolving_false_iff _).2 fun both => notRollback both.1,
        (sealWanted_iff _ _).2 (.inr (.inr (.inl rfl)))⟩
    refine ⟨_, _, sealTest_of_seals sealed, fun none => absurd empty (none b filling), fun b' filling' _ => ?_⟩
    cases filling.symm.trans filling'
    exact ⟨rfl, rfl⟩
  · refine ⟨s.writer, s.counters, sealTest_of_not fun b sealed => seals ⟨b, sealed.1, sealed.2.1⟩,
      fun _ => ⟨rfl, rfl⟩, fun b filling empty => absurd ⟨b, filling, empty⟩ seals⟩

/-- R65, R109: DRAIN goes as far as it can. -/
theorem drainTest_outcome {kind : OpKind} {g : Geometry} (running : s.ctl.op = some kind)
    (geometry : s.operationGeometry kind = some g) : ∃ phase work,
      s.drainTest = { s with ctl := { s.ctl with
        phase := phase, work := work
        drain := if ∃ e ∈ s.pwq.entries, e.stage ≠ .unclassified then s.ctl.drain else false } } ∧
      ((∃ e ∈ s.pwq.entries, e.stage ≠ .unclassified) → phase = s.ctl.phase ∧ work = s.ctl.work) ∧
      ((∀ e ∈ s.pwq.entries, e.stage = .unclassified) →
        (s.maps.inactive.condition ≠ .clean → phase = .sweepWait ∧ work = .rest) ∧
        (s.maps.inactive.condition = .clean →
          phase = (s.anchorBegun kind g).ctl.phase ∧ work = (s.anchorBegun kind g).ctl.work)) := by
  obtain ⟨waits, goesOn⟩ := drainTest_drains s
  by_cases classified : ∃ e ∈ s.pwq.entries, e.stage ≠ .unclassified
  · refine ⟨s.ctl.phase, s.ctl.work, ?_, fun _ => ⟨rfl, rfl⟩, fun drained => ?_⟩
    · rw [waits classified, if_pos classified]
    · obtain ⟨e, mem, ne⟩ := classified
      exact absurd (drained e mem) ne
  · have drained : ∀ e ∈ s.pwq.entries, e.stage = .unclassified := by
      intro e mem
      by_contra ne
      exact classified ⟨e, mem, ne⟩
    obtain ⟨dirty, clean⟩ := goesOn drained
    rw [if_neg classified]
    by_cases swept : s.maps.inactive.condition = .clean
    · exact ⟨_, _, clean swept kind g running geometry, (absurd · classified), fun _ =>
        ⟨(absurd swept ·), fun _ => ⟨rfl, rfl⟩⟩⟩
    · exact ⟨_, _, dirty swept, (absurd · classified), fun _ => ⟨fun _ => ⟨rfl, rfl⟩, (absurd · swept)⟩⟩

/-- R49, R108, R109: FREEZE goes as far as it can. -/
theorem freezeTest_outcome {kind : OpKind} {g : Geometry} (running : s.ctl.op = some kind)
    (notRollback : kind ≠ .rollback) (geometry : s.operationGeometry kind = some g) :
    ∃ phase work drain writer counters,
      s.freezeTest = { s with
        ctl := { s.ctl with phase := phase, work := work, drain := drain }, writer := writer, counters := counters } ∧
      drain = (if s.pwq.classifier = .idle then (∃ e ∈ s.pwq.entries, e.stage ≠ .unclassified : Bool)
        else s.ctl.drain) ∧
      (s.pwq.classifier ≠ .idle →
        phase = s.ctl.phase ∧ work = s.ctl.work ∧ writer = s.writer ∧ counters = s.counters) ∧
      (s.pwq.classifier = .idle →
        ((∃ e ∈ s.pwq.entries, e.stage ≠ .unclassified) → phase = .drain ∧ work = .rest) ∧
        ((∀ e ∈ s.pwq.entries, e.stage = .unclassified) →
          (s.maps.inactive.condition ≠ .clean → phase = .sweepWait ∧ work = .rest) ∧
          (s.maps.inactive.condition = .clean →
            phase = (s.anchorBegun kind g).ctl.phase ∧ work = (s.anchorBegun kind g).ctl.work)) ∧
        ((∀ b : Bool, s.writer.bankIn .filling = some b → (s.writer.bank (!b)).state ≠ .empty) →
          writer = s.writer ∧ counters = s.counters) ∧
        ∀ b : Bool, s.writer.bankIn .filling = some b → (s.writer.bank (!b)).state = .empty →
          writer = s.writer.sealed b ∧ counters = (s.bump .flushes).counters) := by
  by_cases idle : s.pwq.classifier = .idle
  · obtain ⟨writer, counters, sealed, seals⟩ := drain_seals (s := s)
      (by rw [running]; exact fun same => notRollback (Option.some_inj.1 same))
    obtain ⟨phase, work, ends, outcome⟩ := drainTest_outcome (g := g)
      (s := ((s.withPhase .drain .rest).withDrain true).sealTest) (by rw [sealed]; exact running)
      (by rw [sealed]; cases kind <;> exact geometry)
    rw [sealed] at ends outcome
    refine ⟨phase, work, decide (∃ e ∈ s.pwq.entries, e.stage ≠ .unclassified), writer, counters, ?_,
      (if_pos idle).symm, (absurd idle ·), fun _ => ⟨outcome.1, outcome.2, seals⟩⟩
    rw [State.freezeTest, if_pos idle, State.enterDrain, sealed, ends]
    congr 2
  · exact ⟨s.ctl.phase, s.ctl.work, s.ctl.drain, s.writer, s.counters, if_neg idle, (if_neg idle).symm,
      fun _ => ⟨rfl, rfl, rfl, rfl⟩, (absurd · idle)⟩

/-! ### REISSUE as it begins (R48, R86, R119) -/

theorem resumeFlushes_outcome (s : State) : ∃ flush writer,
    s.resumeFlushes = { s with ctl := { s.ctl with resumeFlush := flush }, writer := writer } ∧
      flush = (if s.writer.bankIn .flushFailed = none then s.ctl.resumeFlush else .outstanding) ∧
      (s.writer.bankIn .flushFailed = none → writer = s.writer) ∧
      ∀ b, s.writer.bankIn .flushFailed = some b →
        writer = s.writer.setBank b ⟨.flushing, (s.writer.bank b).records⟩ := by
  unfold State.resumeFlushes
  cases failed : s.writer.bankIn .flushFailed with
  | none => exact ⟨_, _, rfl, rfl, fun _ => rfl, nofun⟩
  | some b => exact ⟨_, _, rfl, rfl, nofun, fun _ same => by cases same; rfl⟩

theorem resumeReads_outcome (s : State) : ∃ read classifier,
    s.resumeReads = { s with
      ctl := { s.ctl with resumeRead := read }, pwq := { s.pwq with classifier := classifier } } ∧
      read = (if s.pwq.classifier = .idle then s.ctl.resumeRead else .outstanding) ∧
      (∀ k, s.pwq.classifier = .held k → classifier = .reading k) ∧
      ((∀ k, s.pwq.classifier ≠ .held k) → classifier = s.pwq.classifier) := by
  unfold State.resumeReads
  cases found : s.pwq.classifier with
  | idle => exact ⟨s.ctl.resumeRead, s.pwq.classifier, rfl, rfl, nofun, fun _ => found⟩
  | reading k => exact ⟨.outstanding, s.pwq.classifier, rfl, rfl, nofun, fun _ => found⟩
  | held k => exact ⟨_, _, rfl, rfl, fun _ same => by cases same; rfl, fun other => absurd rfl (other k)⟩

/-! ### RESOLVE as it begins (R87, R135, R136) -/

theorem enterWalk_outcome (s : State) : ∃ phase work walk,
    s.enterWalk = { s with ctl := { s.ctl with phase := phase, work := work, walkRemaining := walk } } := by
  obtain ⟨-, ended⟩ | ⟨-, walks⟩ := enterWalk_cases s
  · exact ⟨_, _, _, ended.trans (enterSweepWait_shape _)⟩
  · exact ⟨_, _, _, walks⟩

theorem resolveEndTest_outcome (s : State) : ∃ phase work walk,
    s.resolveEndTest = { s with ctl := { s.ctl with phase := phase, work := work, walkRemaining := walk } } := by
  unfold State.resolveEndTest
  split
  · split
    · exact ⟨_, _, _, rfl⟩
    · exact enterWalk_outcome s
  · exact ⟨_, _, _, rfl⟩

theorem trimTest_outcome (s : State) : ∃ writer, s.trimTest = { s with writer := writer } ∧
    ((∀ a, s.port ≠ some ⟨.journalWriter, a⟩) → writer = s.writer.trimmed) := by
  unfold State.trimTest
  split
  · next flying => exact ⟨s.writer, rfl, fun landed => by rw [recordWriteInFlight_false landed] at flying; cases flying⟩
  · exact ⟨_, rfl, fun _ => rfl⟩

/-- R87, R135, R136: what RESOLVE leaves as it begins, however far it goes. -/
theorem enterResolve_outcome (s : State) : ∃ r phase work walk classifier writer,
    (s.withPhase .resolve .rest).QueueResolvesTo r ∧
      s.enterResolve = { r with
        ctl := { r.ctl with phase := phase, work := work, walkRemaining := walk }
        pwq := { r.pwq with classifier := classifier }
        writer := writer } ∧
      ((∀ a, s.port ≠ some ⟨.journalWriter, a⟩) → writer = { s.writer with
        bank0 := ⟨.empty, []⟩, bank1 := ⟨.empty, []⟩, nextSeq := s.writer.durable
        coalesceTimer := none, coalesceDemand := false }) := by
  have queue := resolveQueue_resolves (s.withPhase .resolve .rest)
  have dropped (t : State) : t.resolveClassifier = t.withClassifier t.resolveClassifier.pwq.classifier := by
    unfold State.resolveClassifier
    split <;> rfl
  have kept : (s.withPhase .resolve .rest).resolveQueue.writer = s.writer ∧
      (s.withPhase .resolve .rest).resolveQueue.port = s.port := by
    rw [queue.2.2.2.2.2]
    exact ⟨rfl, rfl⟩
  unfold State.enterResolve State.resolveTest
  dsimp only
  rw [dropped]
  generalize (s.withPhase .resolve .rest).resolveQueue = r at queue kept ⊢
  generalize r.resolveClassifier.pwq.classifier = classifier
  obtain ⟨writer, trims, trimmed⟩ := trimTest_outcome ((r.withClassifier classifier).withWriter
    { (r.withClassifier classifier).writer with coalesceTimer := none, coalesceDemand := false })
  rw [trims]
  obtain ⟨phase, work, walk, ends⟩ := resolveEndTest_outcome { (r.withClassifier classifier).withWriter
    { (r.withClassifier classifier).writer with coalesceTimer := none, coalesceDemand := false } with writer := writer }
  refine ⟨r, phase, work, walk, classifier, writer, queue, ends, fun landed => ?_⟩
  obtain ⟨same, port⟩ := kept
  rw [trimmed fun a flying => landed a (port.symm.trans flying), ← same]
  rfl

/-- R135: RESOLVE does not ask in which phase it was entered. -/
theorem resolvesTo_of_phase {t : State} (resolves : s.ResolvesTo t) (p : Phase) (w : EpochWork) :
    (s.withPhase p w).ResolvesTo t := resolves

/-- R105, R134: a ROLLBACK heard and admitted, before QUIESCE is tested. -/
def State.rollbackBegun (s : State) (tag : Byte) : State :=
  { s with
    ctl := { s.ctl with op := some .rollback, formatArgs := none, phase := .quiesce, work := .rest, freeze := true }
    reads := { s.reads with slots := s.freeAllSlots.reads.slots }
    service := { s.service with
      rxFrame := encodeRequest tag .rollback
      sdo := List.replicate (1 + (encodeRequest tag .rollback).length) 0 } }

theorem rollbackBegun_eq (s : State) (tag : Byte) :
    (((s.heard tag .rollback).admitted .rollback none).frozenIn .quiesce).freeAllSlots = s.rollbackBegun tag := by
  unfold State.rollbackBegun State.freeAllSlots State.withReads State.frozenIn State.admitted State.heard
  dsimp only
  rfl

/-- R39, R40, R135: what RESOLVE keeps of an entry, by its class. -/
theorem fateOf_kept_eq (s : State) (e : Entry) : (s.fateOf e).kept? =
    match s.classOf e.granule with
    | .journaled _ _ _ => none
    | .unprotected =>
      if e.stage = .unclassified then
        if e.isNull then none
        else some { e with stage := .ready, classEpoch := some s.ctl.epochInEffect }
      else some e
    | _ => if e.stage = .unclassified then none else some e := by
  unfold State.fateOf
  cases s.classOf e.granule with
  | unprotected => cases e.isNull <;> cases e.stage <;> rfl
  | _ => cases e.stage <;> rfl

theorem freed_slots {slots : Vector Slot 4} (free : ∀ i : Fin 4, slots[i] = .free) (s : State) :
    s.freeAllSlots.reads.slots = slots :=
  Vector.ext fun i lt => (freeAllSlots_get s ⟨i, lt⟩).trans (free ⟨i, lt⟩).symm

theorem enterResolve_kept (s : State) : ∃ v, v = s.enterResolve ∧ v.ctl.op = s.ctl.op ∧ v.ctl.freeze = s.ctl.freeze ∧
    v.ctl.journal = s.ctl.journal ∧ v.faults.haltedCause = s.faults.haltedCause ∧ v.mem = s.mem ∧ v.port = s.port ∧
    v.regions = s.regions ∧ v.maps = s.maps ∧ v.host = s.host ∧
    ((∀ i : Fin 4, s.reads.slots[i] = .free) → ∀ i : Fin 4, v.reads.slots[i] = .free) ∧
    v.pwq.entries = s.pwq.entries.filterMap (fun e => ((s.withPhase .resolve .rest).fateOf e).kept?) ∧
    ((∀ a, s.port ≠ some ⟨.journalWriter, a⟩) → v.writer = { s.writer with
      bank0 := ⟨.empty, []⟩, bank1 := ⟨.empty, []⟩, nextSeq := s.writer.durable
      coalesceTimer := none, coalesceDemand := false }) := by
  obtain ⟨r, phase, work, walk, classifier, writer, queue, ends, trimmed⟩ := enterResolve_outcome s
  have entries : r.pwq.entries = s.pwq.entries.filterMap fun e => ((s.withPhase .resolve .rest).fateOf e).kept? :=
    queue.1.trans ((resolveQueue_entries _).symm.trans (congrArg WriteQueue.entries (resolveQueue_pwq _)))
  obtain ⟨-, slots, -, -, -, shape⟩ := queue
  refine ⟨_, ends.symm, ?_, ?_, ?_, ?_, ?_, ?_, ?_, ?_, ?_, fun free i => ?_, entries, trimmed⟩
  case refine_10 => exact (slots i).trans (congrArg (Slot.afterLeaving _ _) (free i))
  all_goals
    rw [shape]
    rfl

end Sys2Proof.Machine

namespace Sys2Proof.Proofs

open Sys2Proof Sys2Proof.Machine

/-- Settles O24: SWEEP_WAIT or the anchor phase, as the state stands. -/
theorem adoptBegins : Obligations.AdoptBegins := by
  unfold Obligations.AdoptBegins
  intro tag g s opens geometry legal state
  have admits := opRefusal_opens opens (admits_adopt.2 state) tag .adopt
  have ruled := exec_ruled (c := .adopt) opens.1 (adoptRule_accepted admits geometry legal)
  obtain ⟨dirty, clean⟩ := enterSweepWait_waits ((s.heard tag .adopt).admitted .adopt none)
  refine ⟨fun unswept => ruled.trans ?_, fun swept => ?_⟩
  · rw [dirty unswept]
    rfl
  · rw [clean swept .adopt g rfl geometry] at ruled
    refine ⟨fun next => ruled.trans ?_, fun last => ruled.trans ?_⟩
    · have next' : ((s.heard tag .adopt).admitted .adopt none).ctl.epochInEffect ≠ 0xFFFFFFFF := next
      unfold State.anchorBegun
      simp only [next', reduceCtorEq, or_self, decide_false, Bool.false_eq_true, if_false, and_false]
      rfl
    · have last' : ((s.heard tag .adopt).admitted .adopt none).ctl.epochInEffect = 0xFFFFFFFF := last
      unfold State.anchorBegun
      simp only [last', or_true, decide_true, if_true, and_self]
      rfl

/-- Settles O23: FREEZE, DRAIN, SWEEP_WAIT or the anchor phase, as the state stands. -/
theorem checkpointBegins : Obligations.CheckpointBegins := by
  unfold Obligations.CheckpointBegins
  intro tag kind c args g s opens legal begins
  have ruled : (kind = .checkpoint ∧ s.ctl.geometry = some g ∨ kind = .format ∧ args = some g) ∧
      exec (c.toInstr tag) s = .next (Reply.answer
        ⟨(((s.heard tag c).admitted kind args).frozenIn .freeze).freezeTest, .accepted, []⟩ tag) := by
    obtain ⟨rfl, rfl, rfl, geometry, ready⟩ | ⟨base, size, rfl, rfl, rfl, rfl, fits, state⟩ := begins
    · exact ⟨.inl ⟨rfl, geometry⟩, exec_ruled opens.1
        (checkpointRule_accepted (opRefusal_opens opens (admits_checkpoint.2 ready) _ _) geometry legal)⟩
    · exact ⟨.inr ⟨rfl, rfl⟩, exec_ruled opens.1
        (formatRule_accepted (opRefusal_opens opens (admits_format.2 state) _ _) fits legal)⟩
  obtain ⟨carries, ruled⟩ := ruled
  have geometry : (((s.heard tag c).admitted kind args).frozenIn .freeze).operationGeometry kind = some g := by
    obtain ⟨rfl, geometry⟩ | ⟨rfl, rfl⟩ := carries
    · exact geometry
    · rfl
  have notRollback : kind ≠ .rollback := by
    obtain ⟨rfl, -⟩ | ⟨rfl, -⟩ := carries <;> decide
  obtain ⟨phase, work, drain, writer, counters, ends, drains, frozen, goesOn⟩ := freezeTest_outcome
    (s := ((s.heard tag c).admitted kind args).frozenIn .freeze) rfl notRollback geometry
  rw [ends] at ruled
  refine ⟨_, ruled, ?_, frozen, fun idle => ?_, rfl⟩
  · rw [drains]
    rfl
  · obtain ⟨classified, drained, stays, seals⟩ := goesOn idle
    refine ⟨classified, fun all => ?_, stays, seals⟩
    obtain ⟨dirty, clean⟩ := drained all
    refine ⟨dirty, fun swept => ?_⟩
    obtain ⟨rfl, rfl⟩ := clean swept
    refine ⟨?_, ?_, ?_⟩
    · rintro ⟨rfl, next⟩
      have next' : (((s.heard tag c).admitted .checkpoint args).frozenIn .freeze).ctl.epochInEffect ≠ 0xFFFFFFFF := next
      unfold State.anchorBegun
      simp only [next', reduceCtorEq, or_self, decide_false, Bool.false_eq_true, if_false, and_false]
      exact ⟨rfl, rfl⟩
    · rintro ⟨rfl, last⟩
      have last' : (((s.heard tag c).admitted .checkpoint args).frozenIn .freeze).ctl.epochInEffect = 0xFFFFFFFF := last
      unfold State.anchorBegun
      simp only [last', or_true, decide_true, if_true, reduceCtorEq, false_and, or_self, if_false]
      exact ⟨rfl, rfl⟩
    · rintro rfl
      unfold State.anchorBegun
      simp only [true_or, decide_true, if_true, reduceCtorEq, false_and, or_self, if_false]
      exact ⟨rfl, rfl⟩

/-- Settles O26: an item is outstanding, so the RESUME waits for it. -/
theorem resumeBegins : Obligations.ResumeBegins := by
  unfold Obligations.ResumeBegins
  intro tag s opens halted stopped
  have ruled := exec_ruled (c := .resume) opens.1
    (resumeRule_accepted (opRefusal_opens opens (admits_resume.2 halted) tag _))
  obtain ⟨flush, writer, flushes, flush_eq, unfailed, failed⟩ :=
    resumeFlushes_outcome (((s.heard tag .resume).admitted .resume none).withPhase .reissue .rest)
  obtain ⟨read, classifier, reads, read_eq, held, unheld⟩ := resumeReads_outcome
    (((s.heard tag .resume).admitted .resume none).withPhase .reissue .rest).resumeFlushes
  rw [flushes] at reads read_eq held unheld
  have outstanding : flush = .outstanding ∨ read = .outstanding := by
    obtain bank | busy := stopped
    · exact .inl (flush_eq.trans (if_neg bank))
    · exact .inr (read_eq.trans (if_neg busy))
  rw [flushes, reads, resumeTest_waits outstanding] at ruled
  refine ⟨_, ruled, ?_, unfailed, failed, held, unheld, rfl⟩
  rw [flush_eq, read_eq]
  rfl

/-- Settles O25: QUIESCE beside a commit in flight, and otherwise RESOLVE as far as it goes. -/
theorem rollbackBegins : Obligations.RollbackBegins := by
  unfold Obligations.RollbackBegins
  intro tag s opens state
  have ruled := exec_ruled (c := .rollback) opens.1
    (rollbackRule_accepted (opRefusal_opens opens (admits_rollback.2 state) tag _))
  rw [rollbackBegun_eq] at ruled
  by_cases flying : ∃ a, s.port = some ⟨.commitStage, a⟩
  · rw [quiesceTest_waits (s := s.rollbackBegun tag) flying] at ruled
    exact ⟨_, ruled, rfl, rfl, rfl, rfl, rfl, freeAllSlots_get _, rfl, rfl, rfl, rfl, rfl, fun _ => rfl,
      fun landed => flying.elim fun a flies => absurd flies (landed a)⟩
  · have landed : ∀ a, s.port ≠ some ⟨.commitStage, a⟩ := not_exists.1 flying
    rw [quiesceTest_resolves (s := s.rollbackBegun tag) landed] at ruled
    have resolves := resolvesTo_of_phase (enterResolve_resolves (s.rollbackBegun tag)) s.ctl.phase s.ctl.work
    obtain ⟨v, ends, op, freeze, journal, cause, mem, port, regions, maps, host, free, entries, trimmed⟩ :=
      enterResolve_kept (s.rollbackBegun tag)
    rw [← ends] at ruled resolves
    have freed := free (freeAllSlots_get s)
    unfold State.rollbackBegun at op freeze journal cause mem port regions maps host entries trimmed resolves
    rw [freed_slots freed s] at resolves
    refine ⟨_, ruled, rfl, op, freeze, journal, cause, freed, mem, port, regions, maps, host, (absurd · flying),
      fun _ => ⟨entries.trans (List.filterMap_congr fun e _ => fateOf_kept_eq _ e), trimmed, v, rfl, resolves⟩⟩

end Sys2Proof.Proofs
end

section
/-! The answers to the epoch controller's accesses: start-up's reads, anchor writes and read-backs, clear accesses, the
scan and the walk (sections 7.3, 7.5, 8.1 to 8.3 of spec/). -/

namespace Sys2Proof.Machine

open Sys2Proof

/-! ### Where an answer goes (R165) -/

section answers

variable {s : State} {a : Access} (out : s.inReset = false) (flying : s.port = some ⟨.epochController, a⟩)

include out flying

theorem exec_anchorReadDone {copy : Copy} {first : Option (List Word)} {copyA : Option Anchor}
    (work : s.ctl.work = .anchorRead copy first copyA) (answer : ReadAnswer) : exec (.anchorReadDone answer) s =
      .next ((s.answered answer.isError).anchorReadAnswered copy first copyA (s.answerWords a answer)) := by
  refine (running_next s _ out).trans ?_
  rw [State.anchorReadDone, (inFlightFor_eq_some _ _ _).2 flying, work]

theorem exec_anchorWriteDone {second : Bool} {x : Anchor} (work : s.ctl.work = .anchorWrite second x)
    (answer : WriteAnswer) : exec (.anchorWriteDone answer) s =
      .next (((s.withMem (answeredMem s.mem a answer)).answered answer.isError).anchorWriteAnswered second x
        answer.isError).quietTest := by
  refine (running_next s _ out).trans ?_
  rw [State.anchorWriteDone, (inFlightFor_eq_some _ _ _).2 flying, work]

theorem exec_anchorReadBackDone {first : Option (List Word)} {x : Anchor} (work : s.ctl.work = .readBack first x)
    (answer : ReadAnswer) : exec (.anchorReadBackDone answer) s =
      .next ((s.answered answer.isError).readBackAnswered first x (s.answerWords a answer)).quietTest := by
  refine (running_next s _ out).trans ?_
  rw [State.anchorReadBackDone, (inFlightFor_eq_some _ _ _).2 flying, work]

theorem exec_clearWriteDone {k : Nat} (work : s.ctl.work = .clearing k) (answer : WriteAnswer) :
    exec (.clearWriteDone answer) s =
      .next (((s.withMem (answeredMem s.mem a answer)).answered answer.isError).clearAnswered a k
        answer.isError).quietTest := by
  refine (running_next s _ out).trans ?_
  rw [State.clearWriteDone, (inFlightFor_eq_some _ _ _).2 flying, work]

theorem exec_scanReadDone {i : Nat} (work : s.ctl.work = .scanning i) (answer : ReadAnswer) :
    exec (.scanReadDone answer) s =
      .next ((s.answered answer.isError).scanAnswered i (s.answerWords a answer)).quietTest := by
  refine (running_next s _ out).trans ?_
  rw [State.scanReadDone, (inFlightFor_eq_some _ _ _).2 flying, work]

theorem exec_walkReadDone {i : Nat} (work : s.ctl.work = .walkReading i) (answer : ReadAnswer) :
    exec (.walkReadDone answer) s =
      .next ((s.answered answer.isError).walkReadAnswered i (s.answerWords a answer)).quietTest := by
  refine (running_next s _ out).trans ?_
  rw [State.walkReadDone, (inFlightFor_eq_some _ _ _).2 flying, work]

theorem exec_walkWriteDone {i granule : Nat} {master : BitVec 3} {old : List Word}
    (work : s.ctl.work = .walkWriting i granule master old) (answer : WriteAnswer) : exec (.walkWriteDone answer) s =
      .next (let t := (s.withMem (answeredMem s.mem a answer)).answered answer.isError
        (if answer.isError then t.walkFailed (t.walkWriteReport i granule master)
          else t.walkRestored i).quietTest) := by
  refine (running_next s _ out).trans ?_
  rw [State.walkWriteDone, (inFlightFor_eq_some _ _ _).2 flying, work]

end answers

/-! ### A geometry in effect (R5, R12, R91, R157, R188) -/

section geometry

variable {s t : State} {g : Geometry}

theorem warnSettingFor_some (capacity n : Nat) :
    warnSettingFor capacity (some n) = if n ≤ capacity then some n else none := rfl

theorem freedBy_inside {sl : Slot} {k : SlotKey} (key : sl.key? = some k) (low : g.base / 32 ≤ k.addr.toNat / 32)
    (high : k.addr.toNat / 32 < (g.base + g.size) / 32) : sl.freedBy g = .free := by
  unfold Slot.freedBy
  rw [key]
  exact if_pos ((Geometry.covers_iff _ _).2 ⟨low, high⟩)

theorem freedBy_outside {sl : Slot} (outside : ∀ k, sl.key? = some k →
    k.addr.toNat / 32 < g.base / 32 ∨ (g.base + g.size) / 32 ≤ k.addr.toNat / 32) : sl.freedBy g = sl := by
  unfold Slot.freedBy
  cases key : sl.key? with
  | none => rfl
  | some k =>
    refine if_neg fun covered => ?_
    obtain ⟨low, high⟩ := (Geometry.covers_iff _ _).1 covered
    obtain below | above := outside k key
    · exact absurd low (Nat.not_le.2 below)
    · exact absurd high (Nat.not_lt.2 above)

/-- R5: `t` takes the geometry from `s` when it has it and its fields are those that `withGeometry` gives. -/
theorem takesGeometry_of_eq (geometry : t.ctl.geometry = some g)
    (warn : t.writer.warnSetting = (s.withGeometry g).writer.warnSetting) (reads : t.reads = (s.withGeometry g).reads)
    (service : t.service = (s.withGeometry g).service) : s.TakesGeometry t g := by
  refine ⟨geometry, fun same => ?_, fun other => ?_⟩
  · rw [State.withGeometry, if_pos same] at warn reads service
    exact ⟨warn, reads, service⟩
  · rw [State.withGeometry, if_neg other] at warn reads service
    refine ⟨fun n explicit => ?_, fun unset => ?_, ?_, fun i => ⟨fun k key low high => ?_, fun outside => ?_⟩,
      fun pending => ?_, fun answered => ?_⟩
    · rw [warn]
      exact congrArg (warnSettingFor _) explicit
    · rw [warn]
      exact congrArg (warnSettingFor _) unset
    · rw [reads]
      rfl
    · rw [reads]
      exact (mapSlots_get _ _ i).trans (freedBy_inside key low high)
    · rw [reads]
      exact (mapSlots_get _ _ i).trans (freedBy_outside outside)
    · rw [service]
      exact if_pos pending
    · rw [service]
      exact if_neg answered

/-- R5, R12: what `withGeometry` changes. -/
theorem withGeometry_shape (s : State) (g : Geometry) : s.withGeometry g = { s with
    ctl := { s.ctl with geometry := some g }
    writer := { s.writer with warnSetting := (s.withGeometry g).writer.warnSetting }
    reads := (s.withGeometry g).reads
    service := (s.withGeometry g).service } := by
  unfold State.withGeometry
  split
  · next same => rw [← same]
  · rfl

/-- R5, R12: what `withGeometry` gives depends on the geometry, the writer, the slots and the service port. -/
theorem withGeometry_congr (ctl : t.ctl.geometry = s.ctl.geometry) (writer : t.writer = s.writer)
    (reads : t.reads = s.reads) (service : t.service = s.service) :
    (t.withGeometry g).writer = (s.withGeometry g).writer ∧ (t.withGeometry g).reads = (s.withGeometry g).reads ∧
      (t.withGeometry g).service = (s.withGeometry g).service := by
  unfold State.withGeometry
  rw [ctl]
  split
  · exact ⟨writer, reads, service⟩
  · simp only [writer, reads, service, and_self]

theorem selectAnchor_some (s : State) (held : Copy) (x : Anchor) : s.selectAnchor (some (held, x)) =
    { (s.loaded held x).withGeometry x.geometry with
      ctl := { ((s.loaded held x).withGeometry x.geometry).ctl with
        phase := if x.epoch = 0 then .clear else .scan
        work := if x.epoch = 0 then .clearing 0 else .scanning 0
        startCycle := if x.epoch = 0 then some ⟨x.ending, false⟩
          else ((s.loaded held x).withGeometry x.geometry).ctl.startCycle } } := by
  unfold State.selectAnchor
  by_cases zero : x.epoch = 0 <;> simp only [zero, if_true, if_false] <;> rfl

end geometry

/-! ### What a failure leaves (R106, R116, R142) -/

section failures

variable {s : State}

/-- R106, R142: what a failure into recovery keeps and what it sets, with or without an operation in progress. -/
theorem failIntoRecovery_outcome (s : State) : ∃ ctl maps causes, s.failIntoRecovery = { s with
      ctl := ctl, maps := maps, faults := { s.faults with haltedCause := none }
      service := { s.service with causes := causes } } ∧
    ctl.journal = .recoveryFault ∧ ctl.newest = s.ctl.newest ∧ ctl.epoch = s.ctl.epoch ∧
      ctl.geometry = s.ctl.geometry ∧ ctl.countUnknown = s.ctl.countUnknown ∧ ctl.op = none ∧
      (s.ctl.op ≠ none → ctl.freeze = false) := by
  cases running : s.ctl.op with
  | none =>
    have failed : s.failIntoRecovery =
        ((s.withMaps s.retireTest.maps).withJournal .recoveryFault).withHaltedCause none := by
      unfold State.failIntoRecovery
      rw [retireTest_maps s]
      exact endOp_none _ _ running
    exact ⟨_, _, _, failed, rfl, rfl, rfl, rfl, rfl, running, (absurd rfl ·)⟩
  | some kind => exact ⟨_, _, _, failIntoRecovery_eq running, rfl, rfl, rfl, rfl, rfl, rfl, fun _ => rfl⟩

theorem anchorFailed_cycle (cycle : s.ctl.journal = .starting ∨ s.ctl.phase = .anchor1) :
    s.anchorFailed = s.cycleFailed := by
  by_cases starting : s.ctl.journal = .starting
  · rw [State.anchorFailed, State.cycleFailed, if_pos starting, if_pos starting]
  · rw [State.anchorFailed, if_neg starting, if_pos (cycle.resolve_left starting)]

theorem recordFault_record {r : FaultReport} (empty : s.faults.record = none) :
    (s.recordFault r).faults.record = some r := by
  unfold State.recordFault
  rw [empty]
  rfl

/-- R128, R137: what a failed scan leaves, in start-up and in a ROLLBACK. -/
theorem scanFailed_outcome (s : State) (i : Nat) : ∃ t, t = s.scanFailed i ∧ t.writer.nextSeq = i ∧
    t.writer.durable = i ∧ t.ctl.countUnknown = true ∧ t.ctl.journal = .recoveryFault ∧ t.port = s.port ∧
    t.mem = s.mem ∧ t.counters = s.counters ∧ (s.faults.record = none → t.faults.record =
      some ⟨.scanRead, .epochController, none, none, some s.ctl.epochInEffect, some i⟩) := by
  let r : FaultReport := ⟨.scanRead, .epochController, none, none, some s.ctl.epochInEffect, some i⟩
  have reported : s.report r = s.recordFault r := report_recorded s r (show FaultKind.scanRead ≠ .oldRead by decide)
    (show FaultKind.scanRead ≠ .flush by decide)
  refine ⟨_, rfl, ?_⟩
  unfold State.scanFailed
  dsimp only
  rw [reported]
  split
  · rw [endStart_ended]
    exact ⟨rfl, rfl, rfl, rfl, rfl, rfl, rfl, recordFault_record⟩
  · obtain ⟨ctl, maps, causes, failed, journal, -, -, -, unknown, -⟩ := failIntoRecovery_outcome
      (((s.recordFault r).withWriter ((s.recordFault r).writer.withCounts i)).withCountUnknown true)
    rw [failed]
    exact ⟨rfl, rfl, unknown, journal, rfl, rfl, rfl, recordFault_record⟩

theorem readBackWhole_iff (x : Anchor) (ws : List Word) :
    readBackWhole x ws = true ↔ ∃ y, anchorOfWords ws = some y ∧ y.generation = x.generation := by
  unfold readBackWhole
  cases anchorOfWords ws <;> simp

/-- R127, R130: the anchor of a phase in start-up. -/
theorem buildAnchor_start {g : Geometry} (idle : s.ctl.op = none) (geometry : s.ctl.geometry = some g) (p : Phase)
    (epoch : Word) : s.buildAnchor p epoch = ⟨if s.ctl.newest.isSome then s.ctl.generation + 1 else 1, epoch,
      (s.ctl.startCycle.map StartCycle.ending).getD .restarted, g, s.regions.active⟩ := by
  unfold State.buildAnchor EpochController.nextGeneration EpochController.ending EpochController.anchorGeometry
  rw [idle, geometry]
  rfl

/-- R113, R115, R117, R140: the anchor of a phase of an operation. -/
theorem buildAnchor_operation {kind : OpKind} {g : Geometry} (running : s.ctl.op = some kind)
    (geometry : s.operationGeometry kind = some g) (p : Phase) (epoch : Word) :
    s.buildAnchor p epoch = ⟨if s.ctl.newest.isSome then s.ctl.generation + 1 else 1, epoch,
      { s.ctl with op := some kind }.ending, g,
      if writesStaged (some kind) p then s.regions.staged else s.regions.active⟩ := by
  unfold State.buildAnchor EpochController.nextGeneration
  rw [anchorGeometry_eq running geometry, running, ← running]

theorem clearAccesses_eq {g : Geometry} (geometry : s.ctl.geometry = some g) : s.clearAccesses = g.size / 64 := by
  rw [State.clearAccesses, geometry]
  rfl

/-- R116, R127, R130: what a failed clear cycle keeps and what it sets. -/
theorem cycleFailed_outcome (s : State) : s.cycleFailed.ctl.journal = .recoveryFault ∧
    s.cycleFailed.ctl.newest = s.ctl.newest ∧ s.cycleFailed.ctl.epoch = s.ctl.epoch ∧
    s.cycleFailed.regions = s.regions ∧ s.cycleFailed.ctl.geometry = s.ctl.geometry ∧
    (s.ctl.journal ≠ .starting → s.ctl.op ≠ none → s.cycleFailed.ctl.op = none ∧ s.cycleFailed.ctl.freeze = false ∧
      s.cycleFailed.pwq.entries = s.pwq.entries.filter fun e => !s.lostToClear e) := by
  by_cases starting : s.ctl.journal = .starting
  · rw [State.cycleFailed, if_pos starting, endStart_ended]
    exact ⟨rfl, rfl, rfl, rfl, rfl, (absurd starting ·)⟩
  · rw [State.cycleFailed, if_neg starting]
    obtain ⟨ctl, maps, causes, failed, journal, newest, epoch, geometry, -, op, freeze⟩ :=
      failIntoRecovery_outcome s.discardLost
    have regions : s.discardLost.regions = s.regions := by rw [(discardLost_loses s).rest]; rfl
    rw [EpochController.discardLost_ctl] at newest epoch geometry freeze
    rw [failed]
    exact ⟨journal, newest, epoch, regions, geometry, fun _ running => ⟨op, freeze running,
      congrArg WriteQueue.entries (discardLost_pwq s)⟩⟩

/-- R114, R116: what the failed clear access `a` leaves. -/
theorem clearFailed_outcome (s : State) (a : Access) :
    ∃ t, t = (s.report (clearWriteReport a)).cycleFailed ∧ t.ctl.journal = .recoveryFault ∧
      t.ctl.newest = s.ctl.newest ∧ t.ctl.epoch = s.ctl.epoch ∧ t.regions = s.regions ∧
      t.ctl.geometry = s.ctl.geometry ∧
      (s.ctl.journal ≠ .starting → s.ctl.op ≠ none → t.ctl.op = none ∧ t.ctl.freeze = false ∧
        ∀ e ∈ t.pwq.entries, e.stage = .unclassified → (t.classOf e.granule).isJournaled = false) := by
  have reported : s.report (clearWriteReport a) = s.recordFault (clearWriteReport a) := report_recorded s _
    (show FaultKind.clearWrite ≠ .oldRead by decide) (show FaultKind.clearWrite ≠ .flush by decide)
  obtain ⟨journal, newest, epoch, regions, geometry, ends⟩ := cycleFailed_outcome (s.recordFault (clearWriteReport a))
  refine ⟨_, rfl, ?_⟩
  rw [reported]
  refine ⟨journal, newest, epoch, regions, geometry, fun operating running => ?_⟩
  obtain ⟨op, freeze, entries⟩ := ends operating running
  refine ⟨op, freeze, fun e mem unclassified => ?_⟩
  rw [entries] at mem
  have kept := (List.mem_filter.1 mem).2
  simp only [State.lostToClear, unclassified, beq_self_eq_true, Bool.true_and, Bool.not_eq_true'] at kept
  rw [State.classOf, regions, geometry]
  exact kept

end failures

end Sys2Proof.Machine

namespace Sys2Proof.Proofs

open Sys2Proof Sys2Proof.Machine

/-- Settles O45: the copies in turn, and the selection by what they hold. -/
theorem startUpReads : Obligations.StartUpReads := by
  unfold Obligations.StartUpReads
  intro a copy first copyA seen s out flying work
  have ruled (answer : ReadAnswer) := exec_anchorReadDone out flying work answer
  dsimp only
  refine ⟨fun start => ?_, fun ws rest copy_a => ?_, fun copy_a => ?_, fun copy_b => ⟨fun ws rest => ?_, ?_⟩, fun u =>
    ⟨?_, fun held x => ⟨_, rfl, ?_, ?_⟩⟩⟩
  · subst start
    exact ruled (.okay seen)
  · subst rest copy_a
    exact ruled (.okay seen)
  · subst copy_a
    exact ruled .error
  · subst rest copy_b
    exact ruled (.okay seen)
  · subst copy_b
    exact ruled .error
  · exact endStart_ended u .unformatted
  · obtain ⟨writer, reads, service⟩ := withGeometry_congr
      (s := u) (t := u.loaded held x) (g := x.geometry) rfl rfl rfl rfl
    rw [selectAnchor_some]
    refine takesGeometry_of_eq ?_ (congrArg JournalWriter.warnSetting writer) reads service
    rw [withGeometry_shape]
  · rw [selectAnchor_some, withGeometry_shape]
    rfl

/-- Settles O46: each half and each read-back by its answer, and a failed write by what wrote it. -/
theorem anchorAnswered : Obligations.AnchorAnswered := by
  unfold Obligations.AnchorAnswered
  intro addr words a x s out
  dsimp only
  refine ⟨fun flying => ⟨fun work => ⟨exec_anchorWriteDone out flying work .okay, fun left => ?_⟩, fun work =>
    ⟨?_, fun left => ?_⟩⟩, fun first seen flying work => ⟨?_, fun start => ?_, fun ws rest => ⟨fun whole => ?_,
    fun broken => ?_⟩⟩, fun u => ⟨fun cycle => ?_, fun operating notCycle => ⟨fun kind running opens => ?_,
    fun running => ?_, fun running => ?_⟩⟩⟩
  · exact exec_anchorWriteDone out flying work (.error left)
  · rw [← work]
    exact exec_anchorWriteDone out flying work .okay
  · exact exec_anchorWriteDone out flying work (.error left)
  · exact exec_anchorReadBackDone out flying work .error
  · subst start
    exact exec_anchorReadBackDone out flying work (.okay seen)
  · subst rest
    refine (exec_anchorReadBackDone out flying work (.okay seen)).trans ?_
    exact congrArg (fun t : State => Host.Outcome.next t.quietTest) (if_pos ((readBackWhole_iff _ _).2 whole))
  · subst rest
    refine (exec_anchorReadBackDone out flying work (.okay seen)).trans ?_
    refine congrArg (fun t : State => Host.Outcome.next t.quietTest) (if_neg fun whole => ?_)
    obtain ⟨y, reads, same⟩ := (readBackWhole_iff _ _).1 whole
    exact broken y reads same
  · rw [anchorFailed_cycle cycle]
    exact cycleFailed_fails u
  · rw [State.anchorFailed, if_neg operating, if_neg notCycle, running]
    obtain rfl | rfl := opens <;> exact endOp_ended running .failed
  · rw [State.anchorFailed, if_neg operating, if_neg notCycle, running]
    exact endOp_ended (s := u.withJournal .recoveryFault) running .failed
  · rw [State.anchorFailed, if_neg operating, if_neg notCycle, running]
    exact failIntoRecovery_fails u

/-- Settles O48: the clear access by its answer, and what a failed cycle leaves. -/
theorem clearAnswered : Obligations.ClearAnswered := by
  unfold Obligations.ClearAnswered
  intro addr k words g s out flying work geometry
  have ruled (answer : WriteAnswer) := exec_clearWriteDone out flying work answer
  have accesses (m : Mem) : State.clearAccesses ((s.withMem m).answered false) = g.size / 64 :=
    clearAccesses_eq (s := (s.withMem m).answered false) geometry
  dsimp only
  refine ⟨fun more => (ruled .okay).trans ?_, fun last => (ruled .okay).trans ?_, fun left => ?_⟩
  · refine congrArg (fun t : State => Host.Outcome.next t.quietTest) ((if_neg Bool.false_ne_true).trans (if_pos ?_))
    exact more.trans_eq (accesses _).symm
  · refine congrArg (fun t : State => Host.Outcome.next t.quietTest) ((if_neg Bool.false_ne_true).trans (if_neg ?_))
    exact Nat.not_lt.2 ((accesses _).trans_le last)
  · obtain ⟨t, failed, journal, newest, epoch, regions, kept, ends⟩ := clearFailed_outcome
      ((s.withMem (answeredMem s.mem (.write addr words) (.error left))).answered true) (.write addr words)
    have read : exec (.clearWriteDone (.error left)) s = .next t.quietTest := by
      rw [failed]
      exact ruled (.error left)
    refine ⟨_, read, ?_, ?_⟩
    · rw [failed, ← work]
      rfl
    rw [quietTest_shape]
    refine ⟨journal, newest, epoch, regions, kept, ends, fun u => ⟨cycleFailed_fails u,
      fun ending restarting idle cycle geometry => ?_, fun kind running geometry => ?_⟩⟩
    · rw [buildAnchor_start idle geometry, cycle]
      rfl
    · rw [buildAnchor_operation running geometry]
      refine ⟨?_, ?_, ?_, ?_⟩ <;> rintro rfl <;> rfl

/-- Settles O49: the scan read by its answer and verdict. -/
theorem scanAnswered : Obligations.ScanAnswered := by
  unfold Obligations.ScanAnswered
  intro a i seen s out flying work
  have ruled (answer : ReadAnswer) := exec_scanReadDone out flying work answer
  dsimp only
  refine ⟨fun valid more => (ruled (.okay seen)).trans ?_, fun d ends => ?_, ?_, enterWalk_walks,
    fun g u idle rests geometry => ⟨fun next => ?_, fun last => ?_⟩, fun u => endStart_ended u _⟩
  · exact congrArg (fun t : State => Host.Outcome.next t.quietTest) ((if_pos valid).trans (if_pos more))
  · have completes : exec (.scanReadDone (.okay seen)) s = .next ((s.withPort none).scanCompleted d).quietTest := by
      refine (ruled (.okay seen)).trans (congrArg (fun t : State => Host.Outcome.next t.quietTest) ?_)
      obtain ⟨valid, full, rfl⟩ | ⟨bad, rfl⟩ := ends
      · exact (if_pos valid).trans (if_neg (Nat.not_lt.2 full))
      · exact if_neg bad
    refine ⟨fun operating => ?_, fun starting => ⟨fun some => ?_, fun none => ?_⟩⟩
    · exact completes.trans (congrArg (fun t : State => Host.Outcome.next t.quietTest) (if_neg operating))
    · exact completes.trans
        (congrArg (fun t : State => Host.Outcome.next t.quietTest) ((if_pos starting).trans (if_neg some)))
    · subst none
      exact completes.trans
        (congrArg (fun t : State => Host.Outcome.next t.quietTest) ((if_pos starting).trans (if_pos rfl)))
  · obtain ⟨t, failed, nextSeq, durable, unknown, journal, port, mem, counters, record⟩ :=
      scanFailed_outcome (s.answered true) i
    have read : exec (.scanReadDone .error) s = .next t.quietTest := by
      rw [failed]
      exact ruled .error
    refine ⟨_, read, ?_⟩
    rw [quietTest_shape]
    refine ⟨nextSeq, durable, unknown, journal, port, mem, ?_, record⟩
    unfold State.counter
    rw [counters]
    exact bump_counter _ .memoryErrors
  · refine (if_neg next).trans ?_
    rw [State.startAnchor, buildAnchor_start idle geometry]
    simp only [State.withPhase, rests]
    rfl
  · refine (if_pos last).trans ?_
    rw [State.startAnchor, buildAnchor_start (s := u.withStartCycle ⟨.restarted, true⟩) idle geometry]
    rfl

/-- Settles O50: the walk's answers by the verdict of the record. -/
theorem walkAnswered : Obligations.WalkAnswered := by
  unfold Obligations.WalkAnswered
  intro addr i words a seen s out
  dsimp only
  refine ⟨fun flying work => ⟨fun ep sq origin check old got valid => ?_, fun bad => ?_, ?_⟩,
    fun granule master old flying work => ⟨fun more => ?_, fun last => ?_, fun left => ?_⟩,
    fun u => ⟨failIntoRecovery_fails u, enterSweepWait_waits u, fun _ => rfl⟩⟩
  · refine (exec_walkReadDone out flying work (.okay seen)).trans ?_
    refine congrArg (fun t : State => Host.Outcome.next t.quietTest) ((if_pos valid).trans ?_)
    have restores : restoreOf i (answeredWords s.mem a.addr a.len seen) =
        .walkWriting i (origin.toNat % 2 ^ 23) ((origin >>> 26).setWidth 3) old := by
      rw [got, restoreOf, originGranule, BitVec.toNat_setWidth]
      rfl
    rw [← restores]
    rfl
  · refine (exec_walkReadDone out flying work (.okay seen)).trans ?_
    exact congrArg (fun t : State => Host.Outcome.next t.quietTest) (if_neg bad)
  · exact exec_walkReadDone out flying work .error
  · refine (exec_walkWriteDone out flying work .okay).trans ?_
    exact congrArg (fun t : State => Host.Outcome.next t.quietTest) (if_neg
      (show ¬s.ctl.walkRemaining - 1 = 0 by omega))
  · refine (exec_walkWriteDone out flying work .okay).trans ?_
    exact congrArg (fun t : State => Host.Outcome.next t.quietTest) (if_pos
      (show s.ctl.walkRemaining - 1 = 0 by omega))
  · exact exec_walkWriteDone out flying work (.error left)

end Sys2Proof.Proofs
end

section
/-! The acknowledgement of an anchor: what it activates, the switch point, the start of CLEAR and the end of start-up
(sections 7.3 to 7.5, 8.1 and 8.2 of spec/). -/

namespace Sys2Proof.Machine

open Sys2Proof

variable {s : State} {x : Anchor} {kind : OpKind} {g : Geometry}

/-! ### The newest anchor and what it activates (R12, R107, R113) -/

theorem acknowledge_eq (s : State) (x : Anchor) : s.acknowledge x = { s with ctl := { s.ctl with
    newest := some (if s.ctl.newest = some .a then .b else .a), generation := x.generation, epoch := x.epoch } } := by
  have target : anchorTarget s.ctl.newest = if s.ctl.newest = some .a then .b else .a := by
    cases s.ctl.newest with
    | none => rfl
    | some copy => cases copy <;> rfl
  rw [State.acknowledge, target]

theorem acknowledge_epochInEffect (s : State) (x : Anchor) : (s.acknowledge x).ctl.epochInEffect = x.epoch := rfl

theorem activate_nothing (keeps : activatesTable s.ctl.op s.ctl.phase = false) : s.activate = s := by
  unfold State.activate
  rw [keeps]
  dsimp only
  split
  · next format anchor0 _ => rw [format, anchor0] at keeps; cases keeps
  · rfl

theorem activate_staged (activates : activatesTable s.ctl.op s.ctl.phase = true) (notFormat : s.ctl.op ≠ some .format) :
    s.activate = s.activateStaged := by
  unfold State.activate
  rw [activates]
  dsimp only
  split
  · next format _ _ => exact absurd format notFormat
  · rfl

theorem activate_format (format : s.ctl.op = some .format) (anchor0 : s.ctl.phase = .anchor0)
    (args : s.ctl.formatArgs = some g) : s.activate = s.activateStaged.withGeometry g := by
  unfold State.activate
  rw [format, anchor0, args]
  rfl

theorem activate_phase (s : State) : s.activate.ctl.phase = s.ctl.phase := by rw [EpochController.activate_ctl]

theorem activate_journal (s : State) : s.activate.ctl.journal = s.ctl.journal := by rw [EpochController.activate_ctl]

/-! ### What the phase adds (R111, R113, R127, R130) -/

theorem anchorAcknowledged_anchor (phase : s.ctl.phase = .anchor) :
    s.anchorAcknowledged x = ((s.acknowledge x).activate).switchPoint := by
  have entered : (s.acknowledge x).activate.ctl.phase = .anchor := (activate_phase _).trans phase
  unfold State.anchorAcknowledged
  dsimp only
  rw [entered]

theorem anchorAcknowledged_anchor0 (phase : s.ctl.phase = .anchor0) :
    s.anchorAcknowledged x = ((s.acknowledge x).activate).beginClear := by
  have entered : (s.acknowledge x).activate.ctl.phase = .anchor0 := (activate_phase _).trans phase
  unfold State.anchorAcknowledged
  dsimp only
  rw [entered]

theorem anchorAcknowledged_anchor1 (phase : s.ctl.phase = .anchor1) (operating : s.ctl.journal ≠ .starting) :
    s.anchorAcknowledged x = ((s.acknowledge x).activate).switchPoint := by
  have entered : (s.acknowledge x).activate.ctl.phase = .anchor1 := (activate_phase _).trans phase
  unfold State.anchorAcknowledged
  dsimp only
  rw [entered]
  exact if_neg ((activate_journal (s.acknowledge x)).trans_ne operating)

/-- R127, R130: in start-up nothing is activated. -/
theorem activate_start (idle : s.ctl.op = none) : s.activate = s :=
  activate_nothing (by rw [idle]; rfl)

theorem anchorAcknowledged_restart (idle : s.ctl.op = none) (phase : s.ctl.phase = .restart) :
    s.anchorAcknowledged x = (s.acknowledge x).restartDone := by
  unfold State.anchorAcknowledged
  rw [activate_start (s := s.acknowledge x) idle]
  dsimp only
  rw [show (s.acknowledge x).ctl.phase = .restart from phase]

theorem anchorAcknowledged_cycle (idle : s.ctl.op = none) (starting : s.ctl.journal = .starting)
    (phase : s.ctl.phase = .anchor1) {ending : Ending} {restarting : Bool}
    (cycle : s.ctl.startCycle = some ⟨ending, restarting⟩) : s.anchorAcknowledged x =
      if restarting then (s.acknowledge x).restartDone else (s.acknowledge x).clearResumed := by
  unfold State.anchorAcknowledged
  rw [activate_start (s := s.acknowledge x) idle]
  dsimp only
  rw [show (s.acknowledge x).ctl.phase = .anchor1 from phase,
    show (s.acknowledge x).ctl.startCycle = some ⟨ending, restarting⟩ from cycle]
  exact if_pos starting

/-- R52, R64, R88, R106, R111: the switch point, once the anchor is acknowledged. -/
theorem switchPoint_switches (running : s.ctl.op = some kind) (known : s.ctl.newest.isSome = true)
    (clean : s.maps.inactive.condition = .clean) (live : s.maps.active.condition = .live) :
    s.SwitchesTo s.switchPoint kind := by
  have epoch : s.ctl.epochInEffect = s.ctl.epoch := if_pos known
  have ended := endOp_some s.reopened .success kind running
  have switched : s.switchPoint = (s.reopened.endOp .success).bump .epochsOpened := switchPoint_eq s
  rw [ended] at switched
  rw [switched]
  refine ⟨flipped_flips clean live, ?_⟩
  have reopened : s.reopened.ctl.epochInEffect = s.ctl.epoch := epoch
  rw [reopened]
  unfold State.reopened
  rw [epoch]
  rfl

/-- R88, R127, R130, R132: start-up ends READY. -/
theorem restartDone_started (s : State) : s.restartDone = s.epochStarted s.maps.flipped := rfl

theorem clearResumed_started (s : State) : s.clearResumed = s.epochStarted s.maps := rfl

theorem quietTest_hasCause {c : Cause} (set : s.hasCause c = true) : s.quietTest.hasCause c = true := by
  obtain ⟨same, -⟩ | ⟨rises, -, -⟩ := quietTest_cases s
  · rwa [same]
  · rw [rises]
    simp only [State.hasCause, State.setCause, bne_iff_ne, ne_eq] at set ⊢
    rw [BitVec.and_comm] at set ⊢
    intro none
    refine set (BitVec.eq_of_getLsbD_eq fun i lt => ?_)
    have bit := congrArg (·.getLsbD i) none
    simp only [BitVec.getLsbD_and, BitVec.getLsbD_or] at bit ⊢
    simp_all

theorem quietTest_kept (s : State) : s.quietTest.ctl = s.ctl ∧ s.quietTest.mem = s.mem ∧ s.quietTest.port = s.port ∧
    s.quietTest.regions = s.regions ∧ s.quietTest.writer = s.writer ∧ s.quietTest.maps = s.maps ∧
    s.quietTest.pwq = s.pwq ∧ s.quietTest.faults.haltedCause = s.faults.haltedCause ∧
    s.quietTest.counters = s.counters ∧ s.quietTest.reads = s.reads ∧ s.quietTest.host = s.host := by
  rw [quietTest_shape]
  exact ⟨rfl, rfl, rfl, rfl, rfl, rfl, rfl, rfl, rfl, rfl, rfl⟩

theorem quietTest_response (s : State) : s.quietTest.service.response = s.service.response := by
  obtain ⟨same, -⟩ | ⟨rises, -, -⟩ := quietTest_cases s
  · rw [same]
  · rw [rises]
    rfl

/-- R111: a switch point and PFQUIET's test after it, field by field. -/
theorem State.SwitchesTo.quietTest {t : State} (switches : s.SwitchesTo t kind) :
    t.quietTest.ctl = { s.ctl with
        journal := .ready, op := none, phase := .noPhase, formatArgs := none, freeze := false, drain := false
        countUnknown := false, walkRemaining := 0, work := .rest, resumeFlush := .notStarted, resumeRead := .notStarted
        lastOp := some ⟨kind, .success, s.ctl.epoch⟩ } ∧
      t.quietTest.pwq = { s.pwq with entries := s.pwq.entries.map fun e =>
        if e.stage = .ready ∧ e.recordSeq = none ∧ e.classEpoch ≠ some s.ctl.epoch then
          { e with stage := .unclassified, classEpoch := none, region := none }
        else e } ∧
      t.quietTest.writer = { s.writer with nextSeq := 0, durable := 0, warnArmed := true, fullArmed := true } ∧
      s.maps.FlipsTo t.quietTest.maps ∧ t.quietTest.faults.haltedCause = none ∧
      t.quietTest.counters = (s.bump .epochsOpened).counters ∧ t.quietTest.hasCause .opDone = true ∧
      t.quietTest.mem = s.mem ∧ t.quietTest.port = s.port ∧ t.quietTest.regions = s.regions ∧
      t.quietTest.reads = s.reads ∧ t.quietTest.host = s.host ∧
      t.quietTest.service.response = s.service.response := by
  obtain ⟨ctl, mem, port, regions, writer, maps, pwq, cause, counters, reads, host⟩ := quietTest_kept t
  obtain ⟨flips, shape⟩ := switches
  have done : t.hasCause .opDone = true := by
    rw [shape]
    exact setCause_hasCause s .opDone
  rw [ctl, mem, port, regions, writer, maps, pwq, cause, counters, reads, host, quietTest_response]
  refine ⟨?_, ?_, ?_, flips, ?_, ?counters, quietTest_hasCause done, ?_, ?_, ?_, ?_, ?_, ?_⟩
  case counters =>
    rw [shape]
    rfl
  all_goals rw [shape]

end Sys2Proof.Machine

namespace Sys2Proof.Proofs

open Sys2Proof Sys2Proof.Machine

/-- Settles O47: the switch point from ANCHOR, and every phase's acknowledgement. -/
theorem switchPoint : Obligations.SwitchPoint := by
  unfold Obligations.SwitchPoint
  refine ⟨fun addr words x kind s out flying work phase running switches clean live => ?_, fun x u => ?_⟩
  · let acked : State := ((s.withMem (writeWords s.mem addr words)).withPort none).acknowledge x
    have acked_op : acked.ctl.op = some kind := running
    have acked_phase : acked.ctl.phase = .anchor := phase
    have activated : acked.activate = { acked with
        regions := if kind = .rollback then s.regions else ⟨s.regions.staged, s.regions.staged⟩ } := by
      obtain rfl | rfl | rfl := switches
      · exact activate_staged (by rw [acked_op, acked_phase]; rfl) (by rw [acked_op]; decide)
      · exact activate_staged (by rw [acked_op, acked_phase]; rfl) (by rw [acked_op]; decide)
      · exact activate_nothing (by rw [acked_op, acked_phase]; rfl)
    have switched : exec (.anchorWriteDone .okay) s = .next acked.activate.switchPoint.quietTest :=
      (exec_anchorWriteDone out flying work .okay).trans (congrArg (fun t : State => Host.Outcome.next t.quietTest)
        (anchorAcknowledged_anchor (s := (s.withMem (writeWords s.mem addr words)).withPort none) phase))
    rw [activated] at switched
    have newest : anchorTarget s.ctl.newest = match s.ctl.newest with | some .a => .b | _ => .a := by
      cases s.ctl.newest with
      | none => rfl
      | some copy => cases copy <;> rfl
    obtain ⟨ctl, pwq, writer, ⟨index, active, inactive⟩, cause, counters, done, mem, port, regions, reads, host,
      response⟩ := (switchPoint_switches (s := { acked with
        regions := if kind = .rollback then s.regions else ⟨s.regions.staged, s.regions.staged⟩ }) running rfl clean
      live).quietTest
    refine ⟨_, switched, mem, port, (congrArg EpochController.newest ctl).trans (congrArg some newest),
      (congrArg EpochController.generation ctl :), (congrArg EpochController.epochInEffect ctl :),
      (congrArg EpochController.geometry ctl :), regions, writer, index, active, inactive,
      (congrArg WriteQueue.classifier pwq :), (congrArg WriteQueue.entries pwq :),
      (congrArg EpochController.countUnknown ctl :), (congrArg EpochController.walkRemaining ctl :),
      (congrArg EpochController.journal ctl :), cause, (congrArg EpochController.op ctl :),
      (congrArg EpochController.phase ctl :), (congrArg EpochController.freeze ctl :),
      (congrArg EpochController.drain ctl :), (congrArg EpochController.work ctl :),
      (congrArg EpochController.lastOp ctl :), done, ?_, reads, host, response⟩
    unfold State.counter
    rw [counters]
    exact bump_counter s .epochsOpened
  · have acknowledged := acknowledge_eq u x
    dsimp only
    refine ⟨fun phase => ⟨fun running => ?_, fun notCheckpoint notFormat => ?_, fun g running args => ?_⟩,
      fun phase operating kind running clean live => ?_, fun starting idle => ⟨fun ending phase cycle => ?_,
      fun restarts clean live => ⟨u.maps.flipped, flipped_flips clean live, ?_⟩⟩⟩
    · rw [anchorAcknowledged_anchor0 phase, activate_staged, acknowledged]
      · rfl
      · rw [acknowledged, running, phase]; rfl
      · rw [acknowledged, running]; decide
    · rw [anchorAcknowledged_anchor0 phase, activate_nothing, acknowledged]
      · rfl
      · rw [acknowledged, phase]
        cases running : u.ctl.op with
        | none => rfl
        | some kind =>
          cases kind with
          | checkpoint => exact absurd running notCheckpoint
          | format => exact absurd running notFormat
          | _ => rfl
    · have activated := activate_format (s := u.acknowledge x) running phase args
      obtain ⟨writer, reads, service⟩ :=
        withGeometry_congr (s := u) (t := (u.acknowledge x).activateStaged) (g := g) rfl rfl rfl rfl
      refine ⟨_, rfl, ?_, ?_⟩
      · rw [anchorAcknowledged_anchor0 phase, activated]
        refine takesGeometry_of_eq ?_ (show (State.withGeometry _ g).writer.warnSetting = _ from
          congrArg JournalWriter.warnSetting writer) reads service
        rw [withGeometry_shape]
        rfl
      · rw [anchorAcknowledged_anchor0 phase, activated, withGeometry_shape, acknowledged]
        rfl
    · have activated : (u.acknowledge x).activate =
          if kind = .adopt then (u.acknowledge x).activateStaged else u.acknowledge x := by
        split
        · next adopt =>
          subst adopt
          refine activate_staged ?_ ?_
          · rw [acknowledged, running, phase]; rfl
          · rw [acknowledged, running]; decide
        · next notAdopt =>
          refine activate_nothing ?_
          rw [acknowledged, running, phase]
          cases kind with
          | adopt => exact absurd rfl notAdopt
          | _ => rfl
      rw [anchorAcknowledged_anchor1 phase operating, activated, acknowledged]
      split <;> exact switchPoint_switches running rfl clean live
    · rw [anchorAcknowledged_cycle idle starting phase cycle, acknowledged]
      exact clearResumed_started _
    · have restarted : u.anchorAcknowledged x = (u.acknowledge x).restartDone := by
        obtain phase | ⟨phase, ending, cycle⟩ := restarts
        · exact anchorAcknowledged_restart idle phase
        · exact anchorAcknowledged_cycle idle starting phase cycle
      rw [restarted, acknowledged]
      exact restartDone_started _

end Sys2Proof.Proofs
end
